-- ==== Sys2Proof/Word.lean ====
section
/-! DEFINITION. The word types of the DRAGON (R6, R7): a byte is 8 bits, a word 32 bits, bit 0 the least significant. -/
namespace Sys2Proof

/-- A 32-bit word (R6). -/
abbrev Word := BitVec 32

/-- An 8-bit byte (R6). -/
abbrev Byte := BitVec 8

/-- A four-bit number: a local or auxiliary register number, one half of Beta (R72). -/
abbrev Nibble := BitVec 4

/-- The index of a register of the stack `R`, held in 8 bits: `NSTACK` divides 256 (R23), so 8-bit
sums reduced modulo `NSTACK` are the spec's sums. -/
abbrev StackIdx := BitVec 8

end Sys2Proof
end

