-- ==== Sys2Proof/Syntax.lean ====
section
/-! DEFINITION. The instructions of the DRAGON: one constructor for each of the 256 rows of
spec/opcode_table.json (R85, R88), and the operand specifiers of forms RR, QR and RJB (R215, R221, R260)
kept abstract, as the spec gives no layout for their bits (D22). -/
namespace Sys2Proof

/-- A source operand of forms RR, QR and RJB: one of the seven kinds of R215. `top` is `[S]`, `below`
`[S-1]`, `topPop` `[S]-` and `belowPop` `[S-1]-`. -/
inductive Src where
  | locals (n : Nibble)
  | aux (n : Nibble)
  | const (n : Fin 12)
  | top
  | below
  | topPop
  | belowPop
deriving DecidableEq, Repr

/-- The destination operand of forms RR and QR: one of the six kinds of R215. `top` is `[S]`, `below`
`[S-1]` and `push` `[S+1]+`. -/
inductive Dst where
  | locals (n : Nibble)
  | aux (n : Nibble)
  | const (n : Fin 12)
  | top
  | below
  | push
deriving DecidableEq, Repr

/-- The pair number of form QR (R221), 0 to 3: `inPlace` is Rc=[S], Ra=[S]; `pushTop` Rc=[S+1]+, Ra=[S];
`pushConst0` and `pushConst1` Rc=[S+1]+ with Ra=Constants[0] and Constants[1]. -/
inductive QrSel where
  | inPlace
  | pushTop
  | pushConst0
  | pushConst1
deriving DecidableEq, Repr

/-- The operand Rs of form RJB (R260): `[S]`, `[S]-`, `Constants[0]` or `Constants[1]`. -/
inductive RjbSrc where
  | top
  | topPop
  | const0
  | const1
deriving DecidableEq, Repr

/-- The instructions: those with operand bytes first, then the one-byte ones, each group in the order of
the opcode byte (R85; the map itself is in Decode.lean). Operand bytes are kept as the bytes Alpha,
Beta, Gamma, Delta of R72; in form LRRB Beta is split into BetaL and BetaR (R80). -/
inductive Instr where
  | xop20 (alpha beta gamma delta : Byte)  -- 0x20 xop_20, form OQB, R275
  | xop21 (alpha beta gamma delta : Byte)  -- 0x21 xop_21, form OQB, R275
  | xop22 (alpha beta gamma delta : Byte)  -- 0x22 xop_22, form OQB, R275
  | xop23 (alpha beta gamma delta : Byte)  -- 0x23 xop_23, form OQB, R275
  | xop24 (alpha beta gamma delta : Byte)  -- 0x24 xop_24, form OQB, R275
  | xop25 (alpha beta gamma delta : Byte)  -- 0x25 xop_25, form OQB, R275
  | xop26 (alpha beta gamma delta : Byte)  -- 0x26 xop_26, form OQB, R275
  | xop27 (alpha beta gamma delta : Byte)  -- 0x27 xop_27, form OQB, R275
  | xop28 (alpha beta gamma delta : Byte)  -- 0x28 xop_28, form OQB, R275
  | xop29 (alpha beta gamma delta : Byte)  -- 0x29 xop_29, form OQB, R275
  | xop2A (alpha beta gamma delta : Byte)  -- 0x2A xop_2A, form OQB, R275
  | xop2B (alpha beta gamma delta : Byte)  -- 0x2B xop_2B, form OQB, R275
  | xop2C (alpha beta gamma delta : Byte)  -- 0x2C xop_2C, form OQB, R275
  | xop2D (alpha beta gamma delta : Byte)  -- 0x2D xop_2D, form OQB, R275
  | xop2E (alpha beta gamma delta : Byte)  -- 0x2E xop_2E, form OQB, R275
  | xop2F (alpha beta gamma delta : Byte)  -- 0x2F xop_2F, form OQB, R275
  | xop30 (alpha beta gamma delta : Byte)  -- 0x30 xop_30, form OQB, R275
  | dfc (alpha beta gamma delta : Byte)  -- 0x31 DFC, form OQB, R187
  | liqb (alpha beta gamma delta : Byte)  -- 0x32 LIQB, form OQB, R190
  | xop33 (alpha beta gamma delta : Byte)  -- 0x33 xop_33, form OQB, R275
  | addqb (alpha beta gamma delta : Byte)  -- 0x34 ADDQB, form OQB, R186
  | subqb (alpha beta gamma delta : Byte)  -- 0x35 SUBQB, form OQB, R191
  | j5 (alpha beta gamma delta : Byte)  -- 0x36 J5, form OQB, R188
  | jqb (alpha beta gamma delta : Byte)  -- 0x37 JQB, form OQB, R189
  | xop38 (alpha beta gamma delta : Byte)  -- 0x38 xop_38, form OQB, R275
  | xop39 (alpha beta gamma delta : Byte)  -- 0x39 xop_39, form OQB, R275
  | xop3A (alpha beta gamma delta : Byte)  -- 0x3A xop_3A, form OQB, R275
  | xop3B (alpha beta gamma delta : Byte)  -- 0x3B xop_3B, form OQB, R275
  | xop3C (alpha beta gamma delta : Byte)  -- 0x3C xop_3C, form OQB, R275
  | xop3D (alpha beta gamma delta : Byte)  -- 0x3D xop_3D, form OQB, R275
  | xop3E (alpha beta gamma delta : Byte)  -- 0x3E xop_3E, form OQB, R275
  | xop3F (alpha beta gamma delta : Byte)  -- 0x3F xop_3F, form OQB, R275
  | qor (sel : QrSel) (srcB : Src)  -- 0x80 QOR, form QR, R245
  | qand (sel : QrSel) (srcB : Src)  -- 0x81 QAND, form QR, R241
  | qrx (sel : QrSel) (srcB : Src)  -- 0x82 QRX, form QR, R246
  | qbc (sel : QrSel) (srcB : Src)  -- 0x83 QBC, form QR, R242
  | qadd (sel : QrSel) (srcB : Src)  -- 0x84 QADD, form QR, R240
  | qsub (sel : QrSel) (srcB : Src)  -- 0x85 QSUB, form QR, R247
  | qladd (sel : QrSel) (srcB : Src)  -- 0x86 QLADD, form QR, R243
  | qlsub (sel : QrSel) (srcB : Src)  -- 0x87 QLSUB, form QR, R244
  | als (alpha : Byte)  -- 0x88 ALS, form OB, R133
  | al (alpha : Byte)  -- 0x89 AL, form OB, R132
  | asl (alpha : Byte)  -- 0x8A ASL, form OB, R135
  | as (alpha : Byte)  -- 0x8B AS, form OB, R134
  | cst (alpha : Byte)  -- 0x8C CST, form OB, R136
  | xop8D (alpha : Byte)  -- 0x8D xop_8D, form OB, R275
  | ret (alpha : Byte)  -- 0x8E RET, form OB, R143
  | xop8F (alpha : Byte)  -- 0x8F xop_8F, form OB, R275
  | lip (alpha : Byte)  -- 0x90 LIP, form OB, R140
  | sip (alpha : Byte)  -- 0x91 SIP, form OB, R145
  | lib (alpha : Byte)  -- 0x92 LIB, form OB, R139
  | xop93 (alpha : Byte)  -- 0x93 xop_93, form OB, R275
  | addb (alpha : Byte)  -- 0x94 ADDB, form OB, R131
  | subb (alpha : Byte)  -- 0x95 SUBB, form OB, R146
  | j2 (alpha : Byte)  -- 0x96 J2, form OB, R137
  | jb (alpha : Byte)  -- 0x97 JB, form OB, R138
  | rb (alpha : Byte)  -- 0x98 RB, form OB, R142
  | wb (alpha : Byte)  -- 0x99 WB, form OB, R147
  | rsb (alpha : Byte)  -- 0x9A RSB, form OB, R144
  | wsb (alpha : Byte)  -- 0x9B WSB, form OB, R148
  | xop9C (alpha : Byte)  -- 0x9C xop_9C, form OB, R275
  | xop9D (alpha : Byte)  -- 0x9D xop_9D, form OB, R275
  | xop9E (alpha : Byte)  -- 0x9E xop_9E, form OB, R275
  | psb (alpha : Byte)  -- 0x9F PSB, form OB, R141
  | lri0 (alpha : Byte)  -- 0xA0 LRI0, form LRB, R203
  | lri1 (alpha : Byte)  -- 0xA1 LRI1, form LRB, R203
  | lri2 (alpha : Byte)  -- 0xA2 LRI2, form LRB, R203
  | lri3 (alpha : Byte)  -- 0xA3 LRI3, form LRB, R203
  | lri4 (alpha : Byte)  -- 0xA4 LRI4, form LRB, R203
  | lri5 (alpha : Byte)  -- 0xA5 LRI5, form LRB, R203
  | lri6 (alpha : Byte)  -- 0xA6 LRI6, form LRB, R203
  | lri7 (alpha : Byte)  -- 0xA7 LRI7, form LRB, R203
  | lri8 (alpha : Byte)  -- 0xA8 LRI8, form LRB, R203
  | lri9 (alpha : Byte)  -- 0xA9 LRI9, form LRB, R203
  | lri10 (alpha : Byte)  -- 0xAA LRI10, form LRB, R203
  | lri11 (alpha : Byte)  -- 0xAB LRI11, form LRB, R203
  | lri12 (alpha : Byte)  -- 0xAC LRI12, form LRB, R203
  | lri13 (alpha : Byte)  -- 0xAD LRI13, form LRB, R203
  | lri14 (alpha : Byte)  -- 0xAE LRI14, form LRB, R203
  | lri15 (alpha : Byte)  -- 0xAF LRI15, form LRB, R203
  | sri0 (alpha : Byte)  -- 0xB0 SRI0, form LRB, R204
  | sri1 (alpha : Byte)  -- 0xB1 SRI1, form LRB, R204
  | sri2 (alpha : Byte)  -- 0xB2 SRI2, form LRB, R204
  | sri3 (alpha : Byte)  -- 0xB3 SRI3, form LRB, R204
  | sri4 (alpha : Byte)  -- 0xB4 SRI4, form LRB, R204
  | sri5 (alpha : Byte)  -- 0xB5 SRI5, form LRB, R204
  | sri6 (alpha : Byte)  -- 0xB6 SRI6, form LRB, R204
  | sri7 (alpha : Byte)  -- 0xB7 SRI7, form LRB, R204
  | sri8 (alpha : Byte)  -- 0xB8 SRI8, form LRB, R204
  | sri9 (alpha : Byte)  -- 0xB9 SRI9, form LRB, R204
  | sri10 (alpha : Byte)  -- 0xBA SRI10, form LRB, R204
  | sri11 (alpha : Byte)  -- 0xBB SRI11, form LRB, R204
  | sri12 (alpha : Byte)  -- 0xBC SRI12, form LRB, R204
  | sri13 (alpha : Byte)  -- 0xBD SRI13, form LRB, R204
  | sri14 (alpha : Byte)  -- 0xBE SRI14, form LRB, R204
  | sri15 (alpha : Byte)  -- 0xBF SRI15, form LRB, R204
  | ror (srcA srcB : Src) (dst : Dst)  -- 0xC0 ROR, form RR, R231
  | rand (srcA srcB : Src) (dst : Dst)  -- 0xC1 RAND, form RR, R226
  | rrx (srcA srcB : Src) (dst : Dst)  -- 0xC2 RRX, form RR, R232
  | rbc (srcA srcB : Src) (dst : Dst)  -- 0xC3 RBC, form RR, R227
  | radd (srcA srcB : Src) (dst : Dst)  -- 0xC4 RADD, form RR, R225
  | rsub (srcA srcB : Src) (dst : Dst)  -- 0xC5 RSUB, form RR, R233
  | rladd (srcA srcB : Src) (dst : Dst)  -- 0xC6 RLADD, form RR, R229
  | rlsub (srcA srcB : Src) (dst : Dst)  -- 0xC7 RLSUB, form RR, R230
  | rxor (srcA srcB : Src) (dst : Dst)  -- 0xC8 RXOR, form RR, R238
  | reservedC9 (alpha beta : Byte)  -- 0xC9 reserved_C9, form RR, R277
  | rfu (srcA srcB : Src) (dst : Dst)  -- 0xCA RFU, form RR, R228
  | reservedCB (alpha beta : Byte)  -- 0xCB reserved_CB, form RR, R277
  | rvadd (srcA srcB : Src) (dst : Dst)  -- 0xCC RVADD, form RR, R236
  | rvsub (srcA srcB : Src) (dst : Dst)  -- 0xCD RVSUB, form RR, R237
  | ruadd (srcA srcB : Src) (dst : Dst)  -- 0xCE RUADD, form RR, R234
  | rusub (srcA srcB : Src) (dst : Dst)  -- 0xCF RUSUB, form RR, R235
  | lgf (alpha beta : Byte)  -- 0xD0 LGF, form ODB, R170
  | lfc (alpha beta : Byte)  -- 0xD1 LFC, form ODB, R169
  | lidb (alpha beta : Byte)  -- 0xD2 LIDB, form ODB, R171
  | fsdb (alpha beta : Byte)  -- 0xD3 FSDB, form ODB, R162
  | adddb (alpha beta : Byte)  -- 0xD4 ADDDB, form ODB, R161
  | subdb (alpha beta : Byte)  -- 0xD5 SUBDB, form ODB, R176
  | j3 (alpha beta : Byte)  -- 0xD6 J3, form ODB, R163
  | jdb (alpha beta : Byte)  -- 0xD7 JDB, form ODB, R164
  | rai (alpha : Byte) (betaL betaR : Nibble)  -- 0xD8 RAI, form LRRB, R205
  | wai (alpha : Byte) (betaL betaR : Nibble)  -- 0xD9 WAI, form LRRB, R207
  | rri (alpha : Byte) (betaL betaR : Nibble)  -- 0xDA RRI, form LRRB, R206
  | wri (alpha : Byte) (betaL betaR : Nibble)  -- 0xDB WRI, form LRRB, R208
  | ioda (alpha beta : Byte)  -- 0xDC IODA, form ODB, R168
  | iod (alpha beta : Byte)  -- 0xDD IOD, form ODB, R166
  | ion (alpha beta : Byte)  -- 0xDE ION, form ODB, R167
  | reservedDF (alpha beta : Byte)  -- 0xDF reserved_DF, form ODB, R277
  | reservedE0 (alpha beta : Byte)  -- 0xE0 reserved_E0, form RJB, R277
  | rjeb (srcS : RjbSrc) (srcB : Src) (beta : Byte)  -- 0xE1 RJEB, form RJB, R263
  | rjlb (srcS : RjbSrc) (srcB : Src) (beta : Byte)  -- 0xE2 RJLB, form RJB, R265
  | rjleb (srcS : RjbSrc) (srcB : Src) (beta : Byte)  -- 0xE3 RJLEB, form RJB, R266
  | reservedE4 (alpha beta : Byte)  -- 0xE4 reserved_E4, form RJB, R277
  | rjneb (srcS : RjbSrc) (srcB : Src) (beta : Byte)  -- 0xE5 RJNEB, form RJB, R264
  | rjgeb (srcS : RjbSrc) (srcB : Src) (beta : Byte)  -- 0xE6 RJGEB, form RJB, R267
  | rjgb (srcS : RjbSrc) (srcB : Src) (beta : Byte)  -- 0xE7 RJGB, form RJB, R268
  | reservedE8 (alpha beta : Byte)  -- 0xE8 reserved_E8, form RJB, R277
  | rjnebj (srcS : RjbSrc) (srcB : Src) (beta : Byte)  -- 0xE9 RJNEBJ, form RJB, R264
  | rjgebj (srcS : RjbSrc) (srcB : Src) (beta : Byte)  -- 0xEA RJGEBJ, form RJB, R267
  | rjgbj (srcS : RjbSrc) (srcB : Src) (beta : Byte)  -- 0xEB RJGBJ, form RJB, R268
  | reservedEC (alpha beta : Byte)  -- 0xEC reserved_EC, form RJB, R277
  | rjebj (srcS : RjbSrc) (srcB : Src) (beta : Byte)  -- 0xED RJEBJ, form RJB, R263
  | rjlbj (srcS : RjbSrc) (srcB : Src) (beta : Byte)  -- 0xEE RJLBJ, form RJB, R265
  | rjlebj (srcS : RjbSrc) (srcB : Src) (beta : Byte)  -- 0xEF RJLEBJ, form RJB, R266
  | jebb (alpha beta : Byte)  -- 0xF0 JEBB, form JBB, R197
  | jnebb (alpha beta : Byte)  -- 0xF1 JNEBB, form JBB, R198
  | jebbj (alpha beta : Byte)  -- 0xF2 JEBBJ, form JBB, R197
  | jnebbj (alpha beta : Byte)  -- 0xF3 JNEBBJ, form JBB, R198
  | xopF4 (alpha beta : Byte)  -- 0xF4 xop_F4, form JBB, R275
  | xopF5 (alpha beta : Byte)  -- 0xF5 xop_F5, form JBB, R275
  | xopF6 (alpha beta : Byte)  -- 0xF6 xop_F6, form JBB, R275
  | xopF7 (alpha beta : Byte)  -- 0xF7 xop_F7, form JBB, R275
  | shl (alpha beta : Byte)  -- 0xF8 SHL, form ODB, R174
  | shr (alpha beta : Byte)  -- 0xF9 SHR, form ODB, R175
  | shdl (alpha beta : Byte)  -- 0xFA SHDL, form ODB, R172
  | shdr (alpha beta : Byte)  -- 0xFB SHDR, form ODB, R173
  | xopFC (alpha beta : Byte)  -- 0xFC xop_FC, form ODB, R275
  | xopFD (alpha beta : Byte)  -- 0xFD xop_FD, form ODB, R275
  | xopFE (alpha beta : Byte)  -- 0xFE xop_FE, form ODB, R275
  | xopFF (alpha beta : Byte)  -- 0xFF xop_FF, form ODB, R275
  | xop00  -- 0x00 xop_00, form OI, R275
  | xop01  -- 0x01 xop_01, form OI, R275
  | xop02  -- 0x02 xop_02, form OI, R275
  | xop03  -- 0x03 xop_03, form OI, R275
  | xop04  -- 0x04 xop_04, form OI, R275
  | xop05  -- 0x05 xop_05, form OI, R275
  | xop06  -- 0x06 xop_06, form OI, R275
  | xop07  -- 0x07 xop_07, form OI, R275
  | xop08  -- 0x08 xop_08, form OI, R275
  | xop09  -- 0x09 xop_09, form OI, R275
  | xop0A  -- 0x0A xop_0A, form OI, R275
  | xop0B  -- 0x0B xop_0B, form OI, R275
  | xop0C  -- 0x0C xop_0C, form OI, R275
  | xop0D  -- 0x0D xop_0D, form OI, R275
  | xop0E  -- 0x0E xop_0E, form OI, R275
  | xop0F  -- 0x0F xop_0F, form OI, R275
  | lc0  -- 0x10 LC0, form OI, R112
  | lc1  -- 0x11 LC1, form OI, R112
  | lc2  -- 0x12 LC2, form OI, R112
  | lc3  -- 0x13 LC3, form OI, R112
  | lc4  -- 0x14 LC4, form OI, R112
  | lc5  -- 0x15 LC5, form OI, R112
  | lc6  -- 0x16 LC6, form OI, R112
  | lc7  -- 0x17 LC7, form OI, R112
  | lc8  -- 0x18 LC8, form OI, R112
  | lc9  -- 0x19 LC9, form OI, R112
  | lc10  -- 0x1A LC10, form OI, R112
  | lc11  -- 0x1B LC11, form OI, R112
  | xop1C  -- 0x1C xop_1C, form OI, R275
  | xop1D  -- 0x1D xop_1D, form OI, R275
  | xop1E  -- 0x1E xop_1E, form OI, R275
  | xop1F  -- 0x1F xop_1F, form OI, R275
  | or  -- 0x40 OR, form OI, R114
  | and  -- 0x41 AND, form OI, R102
  | rx  -- 0x42 RX, form OI, R116
  | bc  -- 0x43 BC, form OI, R103
  | add  -- 0x44 ADD, form OI, R101
  | sub  -- 0x45 SUB, form OI, R119
  | ladd  -- 0x46 LADD, form OI, R111
  | lsub  -- 0x47 LSUB, form OI, R113
  | dup  -- 0x48 DUP, form OI, R105
  | dis  -- 0x49 DIS, form OI, R104
  | xop4A  -- 0x4A xop_4A, form OI, R275
  | exdis  -- 0x4B EXDIS, form OI, R106
  | sfc  -- 0x4C SFC, form OI, R117
  | sfci  -- 0x4D SFCI, form OI, R118
  | retn  -- 0x4E RETN, form OI, R115
  | jsd  -- 0x4F JSD, form OI, R108
  | xop50  -- 0x50 xop_50, form OI, R275
  | xop51  -- 0x51 xop_51, form OI, R275
  | xop52  -- 0x52 xop_52, form OI, R275
  | xop53  -- 0x53 xop_53, form OI, R275
  | kfc  -- 0x54 KFC, form OI, R110
  | xop55  -- 0x55 xop_55, form OI, R275
  | j1  -- 0x56 J1, form OI, R107
  | jsr  -- 0x57 JSR, form OI, R109
  | xop58  -- 0x58 xop_58, form OI, R275
  | xop59  -- 0x59 xop_59, form OI, R275
  | xop5A  -- 0x5A xop_5A, form OI, R275
  | xop5B  -- 0x5B xop_5B, form OI, R275
  | xop5C  -- 0x5C xop_5C, form OI, R275
  | xop5D  -- 0x5D xop_5D, form OI, R275
  | xop5E  -- 0x5E xop_5E, form OI, R275
  | xop5F  -- 0x5F xop_5F, form OI, R275
  | lr0  -- 0x60 LR0, form LR, R201
  | lr1  -- 0x61 LR1, form LR, R201
  | lr2  -- 0x62 LR2, form LR, R201
  | lr3  -- 0x63 LR3, form LR, R201
  | lr4  -- 0x64 LR4, form LR, R201
  | lr5  -- 0x65 LR5, form LR, R201
  | lr6  -- 0x66 LR6, form LR, R201
  | lr7  -- 0x67 LR7, form LR, R201
  | lr8  -- 0x68 LR8, form LR, R201
  | lr9  -- 0x69 LR9, form LR, R201
  | lr10  -- 0x6A LR10, form LR, R201
  | lr11  -- 0x6B LR11, form LR, R201
  | lr12  -- 0x6C LR12, form LR, R201
  | lr13  -- 0x6D LR13, form LR, R201
  | lr14  -- 0x6E LR14, form LR, R201
  | lr15  -- 0x6F LR15, form LR, R201
  | sr0  -- 0x70 SR0, form LR, R202
  | sr1  -- 0x71 SR1, form LR, R202
  | sr2  -- 0x72 SR2, form LR, R202
  | sr3  -- 0x73 SR3, form LR, R202
  | sr4  -- 0x74 SR4, form LR, R202
  | sr5  -- 0x75 SR5, form LR, R202
  | sr6  -- 0x76 SR6, form LR, R202
  | sr7  -- 0x77 SR7, form LR, R202
  | sr8  -- 0x78 SR8, form LR, R202
  | sr9  -- 0x79 SR9, form LR, R202
  | sr10  -- 0x7A SR10, form LR, R202
  | sr11  -- 0x7B SR11, form LR, R202
  | sr12  -- 0x7C SR12, form LR, R202
  | sr13  -- 0x7D SR13, form LR, R202
  | sr14  -- 0x7E SR14, form LR, R202
  | sr15  -- 0x7F SR15, form LR, R202
deriving DecidableEq, Repr

end Sys2Proof
end

