-- ==== Sys2Proof/Config.lean ====
section
/-! DEFINITION. What the spec leaves to the launch (R5, R37, R320) as one record of plain data, and the
free values as constants without a body. No instruction writes the record; a theorem over all states
holds for every value of it (log 1). -/
namespace Sys2Proof

/-- `RC_BASE` (R5, R218): the `S` a stack destination of forms RR and QR is relative to when a source
also pops. -/
inductive RcBase where
  | postPop
  | prePop
deriving DecidableEq, Repr

/-- The state a PReg number may stand for (log 18: S, L, pc, carry, Field, the mode bits, the registers of
`R`, `Aux` and `Const`). How a word stands for it is log 18. -/
inductive PRegTarget where
  | stackReg (i : StackIdx)
  | aux (n : Nibble)
  | const (n : Fin 12)
  | top
  | frame
  | pc
  | carry
  | field
  | kernel
  | trapsEnabled
deriving DecidableEq, Repr

/-- What `PRegRead` of one number answers (R33, D24): unconfigured, a draw; else the number's own word, a
word that never changes, or a piece of the state. -/
inductive PRegRead where
  | draw
  | own
  | fixed (v : Word)
  | state (x : PRegTarget)
deriving DecidableEq, Repr

/-- What `PRegWrite` of one number does (R33, D24): unconfigured, it is refused; else it sets the number's own
word, does nothing, or sets a piece of the state. -/
inductive PRegWrite where
  | refuse
  | own
  | ignore
  | state (x : PRegTarget)
deriving DecidableEq, Repr

/-- The meaning of one PReg number (R5, R33). -/
structure PRegMeaning where
  read : PRegRead
  write : PRegWrite
deriving DecidableEq, Repr

/-- A number with no configuration (R33): a read is a draw, a write is refused. -/
def PRegMeaning.unconfigured : PRegMeaning := { read := .draw, write := .refuse }

/-- A plain 32-bit register of the number's own (log 18). -/
def PRegMeaning.storage : PRegMeaning := { read := .own, write := .own }

/-- One of the decoders `DecodeRR`, `DecodeQR`, `DecodeRJB` (R5, D22): the candidate layout GK7 (log 10), or
any function of the operand bytes, as the table of its values; bytes the table does not list name no legal
operands. -/
inductive SpecifierDecoder (Bytes Operands : Type) where
  | gk7
  | table (entries : List (Bytes × Operands))
deriving DecidableEq, Repr

/-- The three decoders of operand specifiers (R81 to R83, D22). -/
structure Specifiers where
  /-- `DecodeRR` of Alpha and Beta (R81). -/
  rr : SpecifierDecoder (Byte × Byte) (Src × Src × Dst)
  /-- `DecodeQR` of Alpha (R82). -/
  qr : SpecifierDecoder Byte (QrSel × Src)
  /-- `DecodeRJB` of Alpha (R83). -/
  rjb : SpecifierDecoder Byte (RjbSrc × Src)
deriving DecidableEq, Repr

/-- GK7 for all three forms (log 10). -/
def Specifiers.allGk7 : Specifiers := { rr := .gk7, qr := .gk7, rjb := .gk7 }

/-- No decoder configured: every operand byte of the three forms is refused (D22). -/
def Specifiers.unconfigured : Specifiers := { rr := .table [], qr := .table [], rjb := .table [] }

/-- A range of word addresses, both ends included. -/
structure WordRange where
  first : Word
  last : Word
deriving DecidableEq, Repr

/-- The launch parameters (R5, R320), plain data. -/
structure Params where
  /-- The base-two logarithm of `NSTACK` (R5, R23): `NSTACK` is a power of two that divides 256. -/
  stackLog : Fin 9
  /-- `CSDEPTH` (R34): how many links `CS` holds, none for unbounded. -/
  csDepth : Option Nat
  /-- `InstTrap` (R286): a byte address for each opcode byte. -/
  instTrap : Vector Word 256
  /-- Whether an xop continues at its handler (R276) or is terminal (R275). -/
  xopContinues : Bool
  /-- `LispNaN` (R14): the triples of two operands and result of which the predicate holds. -/
  lispNaN : List (Word × Word × Word)
  /-- `IsRead` (R64): the command bytes that ask for a bus read. -/
  isRead : List Byte
  /-- `IsWrite` (R64): the command bytes that ask for a bus write. -/
  isWrite : List Byte
  /-- `PRegRead` and `PRegWrite` (R33): the meaning of each of the 256 numbers. -/
  pregs : Vector PRegMeaning 256
  /-- `DecodeRR`, `DecodeQR` and `DecodeRJB` (D22). -/
  specifiers : Specifiers
  /-- `SFCI_POPS` (R118). -/
  sfciPops : Bool
  /-- `RC_BASE` (R218). -/
  rcBase : RcBase
  /-- The words a launch may touch (R54, R59). -/
  admitted : List WordRange
  /-- `pc_exit` (R325), where a run ends well. -/
  pcExit : Option Word
deriving DecidableEq, Repr

/-- `FieldUnit` (R16): a total function of two words and a descriptor word, of which the spec gives
no value (D14). A free value (log 11). -/
opaque Config.fieldUnit : Word → Word → Word → Word

/-- The answer of `PRead` (R64): the draw's number, the bus address and the command word. A free value
for each draw (D25, log 16). -/
opaque Config.busAnswer : Nat → Word → Word → Word

/-- The word an unconfigured `PRegRead` returns (R33): the draw's number and the PReg number. A free
value for each draw (D24, log 18). -/
opaque Config.pregAnswer : Nat → Byte → Word

end Sys2Proof
end

