-- ==== Sys2Proof/Machine/State.lean ====
section
/-! DEFINITION. The state of the machine as plain data (R20 to R38), the reasons a step can stop (R280,
R281, R284) and the state after reset. The spec gives no reset value for anything (R38, R320): each value of
`State.reset` is named in a log entry. -/
namespace Sys2Proof.Machine

/-- What a trap is raised for (R280, R281). -/
inductive TrapKind where
  /-- "trap on overflow": ADD, SUB and their B, DB, QB, Q and R forms (R280). -/
  | overflow
  /-- "trap if ... (unsigned)": BC, QBC, RBC (R280). -/
  | boundsCheck
  /-- "trap on Lisp NaN": LADD, LSUB and their Q and R forms (R280). -/
  | lispNaN
  /-- "Takes Xop trap": an xop opcode with its operand bytes (R275, R280). -/
  | xop (op : Byte) (operands : List Byte)
  /-- SIP in user mode (R145, R281). -/
  | kernelOnly
  /-- RET or RETN with the link stack empty (R17, R281). -/
  | linkUnderflow
deriving DecidableEq, Repr

/-- Why the machine stops. -/
inductive Fault where
  /-- A trap (R283, R284): terminal, with the address of the instruction that raised it; nothing of that
  instruction took effect. Raised by the instructions `TrapKind` names. Safe: the spec gives no
  continuation (log 15). -/
  | trap (kind : TrapKind) (pc : Word)
  /-- A data read of a memory word that holds no value (R321). Raised by every instruction that reads
  memory. Safe (log 8). -/
  | unwrittenWord (address : Word)
  /-- A fetch of an instruction byte that holds no value (R321, R325). Raised by the fetch. Safe (log 8). -/
  | unwrittenFetch (address : Word)
deriving DecidableEq, Repr

/-- Why a step has no next state although nothing stops the machine. -/
inductive Refusal where
  /-- The instruction has no meaning in the model yet. Raised by no arm of `exec` now. Safe. -/
  | notModelled (mnemonic : String)
  /-- A reserved opcode, "Undefined behavior (reserved instruction)" (R277). Raised by the seven reserved
  opcodes. Safe (log 32). -/
  | reserved (op : Byte)
  /-- A defined opcode whose operand bytes name no legal operands (R89, R165, R216). Raised by the decoder,
  form RR and IOD, ION, IODA. Safe (log 32). -/
  | illegalOperands (op : Byte)
  /-- A trap condition while traps are disabled (R291). Raised where a trap would be, but for
  `linkUnderflow`. Safe (log 15). -/
  | trapWhileDisabled (kind : TrapKind)
  /-- A link pushed on a full link stack (R34). Raised by the calls, KFC and a continued xop. Safe (log 22). -/
  | linkStackFull
  /-- A write of a PReg number that has no configuration (R33, R145). Raised by SIP. Safe (log 18). -/
  | pregUnconfigured (number : Byte)
  /-- An access to a word the launch does not admit (R54, R59). Raised by every memory access. Safe (log 20). -/
  | outsideLaunch (address : Word)
  /-- A fetch of a byte of a word the run has stored to (R62, R325). Raised by the fetch. Safe (log 19). -/
  | storedCode (address : Word)
deriving DecidableEq, Repr

/-- One link of `CS` (R17, R34): the return byte address and the saved `L`. -/
structure Link where
  ret : Word
  savedL : StackIdx
deriving DecidableEq, Repr

/-- One operation of the processor bus, as the history records it (R64): a read with the answer it drew, a
write with the datum it sent. -/
inductive BusEvent where
  | read (addr cmd answer : Word)
  | write (addr cmd data : Word)
deriving DecidableEq, Repr

/-- Memory (R50, R53): byte `k` of word `a`, byte 0 the most significant, is the cell at `4 * a + k`.
Canonical form: addresses strictly rising; an unlisted byte holds no value (R321). -/
abbrev Memory := List Host.Cell

/-- The state of the machine (R20 to R38). -/
structure State where
  /-- The register stack `R` (R20): 256 slots, of which the first `NSTACK` are the machine's (log 3). -/
  R : Vector Word 256
  /-- The index of the top of the evaluation stack (R21). -/
  S : StackIdx
  /-- The index of local register 0 (R22). -/
  L : StackIdx
  /-- The auxiliary registers (R25). -/
  Aux : Vector Word 16
  /-- The constant registers, ordinary writable registers (R26). -/
  Const : Vector Word 12
  /-- The one flag (R28). -/
  carry : Bool
  /-- The field descriptor FSDB loads and RFU reads (R30). -/
  Field : Word
  /-- The program counter, a byte address (R29). -/
  pc : Word
  /-- Kernel mode (R31, R295). -/
  kernel : Bool
  /-- Whether traps are enabled (R32, R291). -/
  trapsEnabled : Bool
  /-- The processor registers (R33): the own word of each number, used where `params.pregs` says so. -/
  PReg : Vector Word 256
  /-- The link stack, newest link first (R34). -/
  CS : List Link
  /-- Memory (R50, R53). -/
  mem : Memory
  /-- The history of the processor bus, newest first (R64). -/
  events : List BusEvent
  /-- The words the run has stored to, strictly rising (R62). The model's own field (log 19). -/
  stored : List Nat
  /-- How many free values the run has drawn (R33, R64). The model's own field (log 16). -/
  draws : Nat
  /-- The launch parameters (R5, R320), written by no instruction (log 1). -/
  params : Params
deriving DecidableEq, Repr

/-- The launch parameters at reset: the spec's defaults where it names one (`csDepth`, `xopContinues`,
`sfciPops`, `rcBase`, log 14, log 22), the others named in log 2, 10, 12, 13, 17, 18, 20 and 21. -/
def State.resetParams : Params where
  stackLog := 7
  csDepth := none
  instTrap := Vector.replicate 256 0
  xopContinues := false
  lispNaN := []
  isRead := (List.range 128).map fun k => BitVec.ofNat 8 (2 * k)
  isWrite := (List.range 128).map fun k => BitVec.ofNat 8 (2 * k + 1)
  pregs := Vector.replicate 256 PRegMeaning.storage
  specifiers := Specifiers.allGk7
  sfciPops := false
  rcBase := .postPop
  admitted := [{ first := 0, last := 0xFFFFFFFF }]
  pcExit := none

/-- The state after reset. The spec gives no reset value (R38, R320); every value here is a DESIGN CHOICE
or PRESUMED, named in log 2 to 8, 16 and 19. -/
def State.reset : State where
  R := Vector.replicate 256 0
  S := 0
  L := 0
  Aux := Vector.replicate 16 0
  Const := Vector.replicate 12 0
  carry := false
  Field := 0
  pc := 0
  kernel := false
  trapsEnabled := true
  PReg := Vector.replicate 256 0
  CS := []
  mem := []
  events := []
  stored := []
  draws := 0
  params := State.resetParams

end Sys2Proof.Machine
end

