-- ==== Sys2Proof/Machine/Flags.lean ====
section
/-! DEFINITION. The arithmetic helpers of R11 to R15: results, the overflow condition, carry and borrow out,
the Lisp NaN predicate and the bounds check. Operands are read as integers, the exact result is computed and
then narrowed. -/
namespace Sys2Proof.Machine

/-- The carry as an integer, 0 or 1. -/
def carryInt (c : Bool) : Int := if c then 1 else 0

/-- An integer outside the signed range of a word (R11, R12). -/
def outsideSigned (z : Int) : Bool := decide (z < -(2 ^ 31)) || decide (2 ^ 31 - 1 < z)

/-- `AddOvf` (R11): the sum with the carry, and whether the exact signed sum leaves the range. -/
def addOvf (a b : Word) (cin : Bool) : Word × Bool :=
  let sum := a.toInt + b.toInt + carryInt cin
  (BitVec.ofInt 32 sum, outsideSigned sum)

/-- `SubOvf` (R12): the difference less the carry, and whether the exact signed difference leaves the range. -/
def subOvf (a b : Word) (cin : Bool) : Word × Bool :=
  let dif := a.toInt - b.toInt - carryInt cin
  (BitVec.ofInt 32 dif, outsideSigned dif)

/-- `UAdd` (R13): the sum with the carry, and the carry out of the unsigned sum. -/
def uAdd (a b : Word) (cin : Bool) : Word × Bool :=
  let sum := (a.toNat : Int) + b.toNat + carryInt cin
  (BitVec.ofInt 32 sum, decide (2 ^ 32 ≤ sum))

/-- `USub` (R13): the difference less the carry, and the borrow out of the unsigned difference. -/
def uSub (a b : Word) (cin : Bool) : Word × Bool :=
  let dif := (a.toNat : Int) - b.toNat - carryInt cin
  (BitVec.ofInt 32 dif, decide (dif < 0))

/-- `LispNaN(a, b, r)` (R14): the launch's predicate of the two operands and the result (D13, log 12). -/
def State.isLispNaN (s : State) (a b r : Word) : Bool := s.params.lispNaN.contains (a, b, r)

/-- `BoundsFail(a, b)` (R15): `a >= b`, unsigned. -/
def boundsFail (a b : Word) : Bool := decide (b.toNat ≤ a.toNat)

end Sys2Proof.Machine
end

