-- ==== Sys2Proof/Machine/Memory.lean ====
section
/-! DEFINITION. Memory as bytes and as words (R50 to R53), and the set of stored words (R62). -/
namespace Sys2Proof.Machine

/-- What a byte that nothing has written reads as: no value, and reading it faults (R321, D27, log 8). -/
def Memory.unlisted : Option Byte := none

/-- The byte at cell `a`. -/
def Memory.read (m : Memory) (a : Nat) : Option Byte :=
  match m with
  | [] => Memory.unlisted
  | (b, v) :: rest => if a = b then some v else Memory.read rest a

/-- Memory with byte `v` at cell `a`, in canonical form if `m` is. -/
def Memory.write (m : Memory) (a : Nat) (v : Byte) : Memory :=
  match m with
  | [] => [(a, v)]
  | (b, w) :: rest =>
    if a < b then (a, v) :: (b, w) :: rest
    else if a = b then (a, v) :: rest
    else (b, w) :: Memory.write rest a v

/-- The addresses of a list of cells, all above `lo`, rise strictly. -/
def Memory.risesAbove (lo : Nat) (m : Memory) : Bool :=
  match m with
  | [] => true
  | (b, _) :: rest => decide (lo < b) && Memory.risesAbove b rest

/-- The addresses of a list of cells rise strictly. -/
def Memory.rises (m : Memory) : Bool :=
  match m with
  | [] => true
  | (b, _) :: rest => Memory.risesAbove b rest

/-- The canonical form: addresses strictly rising and each the byte of one of the 2^32 words (R50). No
listed byte equals `Memory.unlisted`, which is no byte. -/
def Memory.wf (m : Memory) : Bool :=
  Memory.rises m && m.all fun c => decide (c.1 < 2 ^ 34)

/-- The word at word address `a`, byte 0 the most significant (R53); none unless all four bytes hold a
value. -/
def Memory.readWord (m : Memory) (a : Word) : Option Word :=
  match Memory.read m (4 * a.toNat), Memory.read m (4 * a.toNat + 1),
      Memory.read m (4 * a.toNat + 2), Memory.read m (4 * a.toNat + 3) with
  | some b0, some b1, some b2, some b3 => some (b0 ++ b1 ++ b2 ++ b3)
  | _, _, _, _ => none

/-- Memory with the word `v` at word address `a`, byte 0 the most significant (R51, R53). -/
def Memory.writeWord (m : Memory) (a v : Word) : Memory :=
  Memory.write (Memory.write (Memory.write (Memory.write m
    (4 * a.toNat) (v.extractLsb' 24 8)) (4 * a.toNat + 1) (v.extractLsb' 16 8))
    (4 * a.toNat + 2) (v.extractLsb' 8 8)) (4 * a.toNat + 3) (v.extractLsb' 0 8)

/-- A strictly rising list of numbers with `a` in it. -/
def insertRising (l : List Nat) (a : Nat) : List Nat :=
  match l with
  | [] => [a]
  | b :: rest =>
    if a < b then a :: b :: rest
    else if a = b then b :: rest
    else b :: insertRising rest a

/-- The numbers of a list, all above `lo`, rise strictly. -/
def natsRiseAbove (lo : Nat) (l : List Nat) : Bool :=
  match l with
  | [] => true
  | b :: rest => decide (lo < b) && natsRiseAbove b rest

/-- The numbers of a list rise strictly. -/
def natsRise (l : List Nat) : Bool :=
  match l with
  | [] => true
  | b :: rest => natsRiseAbove b rest

end Sys2Proof.Machine
end

