-- ==== Sys2Proof/Machine/Ops.lean ====
section
/-! DEFINITION. The named operations the meanings are made of: registers (R20 to R26), data memory (R51, R54,
R62), the program counter (R29), raising a trap (R283, R284, R291), calls and returns (R17, R34), the entries
of KFC and of a continued xop (R276, R285), the processor bus (R64, R165) and the processor registers (R33).
Operations that may stop take a continuation, which gets what they yield. -/
namespace Sys2Proof.Machine

/-- What one instruction answers. -/
abbrev Result := Host.Outcome State Fault Refusal

/-! ## The register stack (R20 to R24) -/

/-- `NSTACK` (R5, R23). -/
def State.nstack (s : State) : Nat := 2 ^ s.params.stackLog.val

/-- An index reduced modulo `NSTACK` (R23). -/
def State.wrap (s : State) (i : StackIdx) : StackIdx := BitVec.ofNat 8 (i.toNat % s.nstack)

/-- `R[i]`, the index modulo `NSTACK` (R20, R23). -/
def State.readR (s : State) (i : StackIdx) : Word := s.R[(s.wrap i).toNat]

/-- `R[i] <- v`, the index modulo `NSTACK` (R20, R23). -/
def State.writeR (s : State) (i : StackIdx) (v : Word) : State :=
  { s with R := s.R.set (s.wrap i).toNat v }

/-- `S <- i` modulo `NSTACK` (R21, R23). -/
def State.setS (s : State) (i : StackIdx) : State := { s with S := s.wrap i }

/-- `L <- i` modulo `NSTACK` (R22, R23). -/
def State.setL (s : State) (i : StackIdx) : State := { s with L := s.wrap i }

/-- The index of `Locals[n]`, `L + n` (R22). -/
def State.localIdx (s : State) (n : Nibble) : StackIdx := s.L + n.setWidth 8

/-- `Push(v)` (R18): `R[S+1] <- v; S <- S+1`. -/
def State.push (s : State) (v : Word) : State := (s.writeR (s.S + 1) v).setS (s.S + 1)

/-- `S <- S - n` (R18): the registers keep their values. -/
def State.pop (s : State) (n : StackIdx) : State := s.setS (s.S - n)

/-- `R[S-1] <- v; S <- S-1` (R101): two elements become one. -/
def State.replaceTwo (s : State) (v : Word) : State := (s.writeR (s.S - 1) v).setS (s.S - 1)

/-! ## The other registers (R25, R26, R28, R30 to R33) -/

/-- `Aux[n]` (R25). -/
def State.readAux (s : State) (n : Nibble) : Word := s.Aux[n.toNat]

/-- `Aux[n] <- v` (R25). -/
def State.writeAux (s : State) (n : Nibble) (v : Word) : State := { s with Aux := s.Aux.set n.toNat v }

/-- `Const[n]` (R26). -/
def State.readConst (s : State) (n : Fin 12) : Word := s.Const[n.val]

/-- `Const[n] <- v` (R26, D23: a constant register is writable). -/
def State.writeConst (s : State) (n : Fin 12) (v : Word) : State := { s with Const := s.Const.set n.val v }

/-- `carry <- c` (R28). -/
def State.setCarry (s : State) (c : Bool) : State := { s with carry := c }

/-- `Field <- v` (R30). -/
def State.setField (s : State) (v : Word) : State := { s with Field := v }

/-- `PReg[i] <- v`: the number's own word (R33). -/
def State.setPReg (s : State) (i : Byte) (v : Word) : State := { s with PReg := s.PReg.set i.toNat v }

/-- `kernel <- on` (R31). -/
def State.setKernel (s : State) (on : Bool) : State := { s with kernel := on }

/-- `trapsEnabled <- on` (R32). -/
def State.setTrapsEnabled (s : State) (on : Bool) : State := { s with trapsEnabled := on }

/-! ## The program counter (R29) -/

/-- `pc <- pc + len` modulo 2^32 (R29). -/
def State.advance (s : State) (len : Nat) : State := { s with pc := s.pc + BitVec.ofNat 32 len }

/-- `pc <- target` (R29). -/
def State.jump (s : State) (target : Word) : State := { s with pc := target }

/-! ## Traps (R283, R284, R291) -/

/-- `raise Trap(kind)`: with traps enabled the terminal outcome `Trap(kind, pc)`, nothing changed (R283,
R284); with traps disabled the refusal `TrapWhileDisabled` (R291). Log 15. -/
def State.raise (s : State) (kind : TrapKind) : Result :=
  if s.trapsEnabled then .fault (.trap kind s.pc) else .refused (.trapWhileDisabled kind)

/-! ## Data memory (R50, R51, R54, R59, R62) -/

/-- The launch admits an access to word `a` (R54, R59, log 20). -/
def State.admits (s : State) (a : Word) : Bool :=
  s.params.admitted.any fun r => decide (r.first.toNat ≤ a.toNat) && decide (a.toNat ≤ r.last.toNat)

/-- `MemRead(a, 4)` (R51): refused outside the admitted words (R54), a fault where the word holds no value
(R321). -/
def State.memRead (s : State) (a : Word) (k : Word → Result) : Result :=
  if s.admits a then
    match Memory.readWord s.mem a with
    | some v => k v
    | none => .fault (.unwrittenWord a)
  else .refused (.outsideLaunch a)

/-- The state after the word `v` is stored at `a`: memory, and the set of stored words (R62). -/
def State.storeWord (s : State) (a v : Word) : State :=
  { s with mem := Memory.writeWord s.mem a v, stored := insertRising s.stored a.toNat }

/-- `MemWrite(a, 4, v)` (R51): refused outside the admitted words (R54). -/
def State.memWrite (s : State) (a v : Word) (k : State → Result) : Result :=
  if s.admits a then k (s.storeWord a v) else .refused (.outsideLaunch a)

/-! ## Calls, returns and entries (R17, R34, R276, R285) -/

/-- `CS` already holds `CSDEPTH` links (R34). -/
def State.csFull (s : State) : Bool :=
  match s.params.csDepth with
  | some d => decide (d ≤ s.CS.length)
  | none => false

/-- Pushes the link `(pc + len, L)`, `len` the length of the calling instruction; refused when `CS` is full
(R17, R34). PRESUMED by the spec (D17, log 26). -/
def State.pushLink (s : State) (len : Nat) (k : State → Result) : Result :=
  if s.csFull then .refused .linkStackFull
  else k { s with CS := { ret := s.pc + BitVec.ofNat 32 len, savedL := s.L } :: s.CS }

/-- `Call(target)` (R17) by an instruction of length `len`. -/
def State.call (s : State) (target : Word) (len : Nat) : Result :=
  s.pushLink len fun t => .next (t.jump target)

/-- `Return()` (R17): `pc` and `L` from the newest link; on an empty `CS` the trap LinkUnderflow, which
R291 does not mask. RET and RETN are the only returns (R287). -/
def State.ret (s : State) : Result :=
  match s.CS with
  | [] => .fault (.trap .linkUnderflow s.pc)
  | link :: rest => .next { s with CS := rest, pc := link.ret, L := link.savedL }

/-- The entry of KFC (R110, R285): the link `(pc + 1, L)`, `pc` from `InstTrap`, kernel mode, traps
disabled. -/
def State.enterKernel (s : State) : Result :=
  s.pushLink 1 fun t =>
    .next { t with pc := t.params.instTrap[0x54], kernel := true, trapsEnabled := false }

/-- An xop opcode of length `len` with its operand bytes (R275): masked, the refusal of R291; else, where the
launch continues xops, the entry of R276, the mode bits unchanged; else the terminal trap. Log 14. -/
def State.takeXop (s : State) (op : Byte) (len : Nat) (operands : List Byte) : Result :=
  if s.trapsEnabled && s.params.xopContinues then
    s.pushLink len fun t => .next (t.jump (t.params.instTrap[op.toNat]'op.isLt))
  else s.raise (.xop op operands)

/-! ## The processor bus (R64, R165) and the processor registers (R33) -/

/-- `IsRead[c]` (R64, log 17). -/
def State.cmdReads (s : State) (c : Byte) : Bool := s.params.isRead.contains c

/-- `IsWrite[c]` (R64, log 17). -/
def State.cmdWrites (s : State) (c : Byte) : Bool := s.params.isWrite.contains c

/-- The word the next `PRead(addr, cmd)` answers: a draw (R64, log 16). -/
def State.busAnswer (s : State) (addr cmd : Word) : Word := Config.busAnswer s.draws addr cmd

/-- The state after `PRead(addr, cmd)`: the draw is used up and the operation recorded (R64). -/
def State.afterBusRead (s : State) (addr cmd : Word) : State :=
  { s with draws := s.draws + 1, events := .read addr cmd (s.busAnswer addr cmd) :: s.events }

/-- The state after `PWrite(addr, cmd, data)`: recorded, nothing else changed (R64). -/
def State.afterBusWrite (s : State) (addr cmd data : Word) : State :=
  { s with events := .write addr cmd data :: s.events }

/-- Exactly one of `IsRead` and `IsWrite` holds of the command, or the instruction is refused (R165). -/
def State.busCommand (s : State) (op cmd : Byte) (onRead onWrite : Result) : Result :=
  match s.cmdReads cmd, s.cmdWrites cmd with
  | true, false => onRead
  | false, true => onWrite
  | _, _ => .refused (.illegalOperands op)

/-- The word that stands for a piece of state (log 18): a narrower one is zero-extended, a flag is 0 or 1. -/
def State.readTarget (s : State) (x : PRegTarget) : Word :=
  match x with
  | .stackReg i => s.readR i
  | .aux n => s.readAux n
  | .const n => s.readConst n
  | .top => s.S.setWidth 32
  | .frame => s.L.setWidth 32
  | .pc => s.pc
  | .carry => if s.carry then 1 else 0
  | .field => s.Field
  | .kernel => if s.kernel then 1 else 0
  | .trapsEnabled => if s.trapsEnabled then 1 else 0

/-- The state after a word is written to a piece of state (log 18): a narrower one takes the low bits,
`S` and `L` modulo `NSTACK` (R23), a flag bit 0. -/
def State.writeTarget (s : State) (x : PRegTarget) (v : Word) : State :=
  match x with
  | .stackReg i => s.writeR i v
  | .aux n => s.writeAux n v
  | .const n => s.writeConst n v
  | .top => s.setS (v.setWidth 8)
  | .frame => s.setL (v.setWidth 8)
  | .pc => s.jump v
  | .carry => s.setCarry (v.getLsbD 0)
  | .field => s.setField v
  | .kernel => s.setKernel (v.getLsbD 0)
  | .trapsEnabled => s.setTrapsEnabled (v.getLsbD 0)

/-- The meaning of PReg number `i` (R5, R33). -/
def State.pregMeaning (s : State) (i : Byte) : PRegMeaning := s.params.pregs[i.toNat]'i.isLt

/-- `PRegRead(i)` (R33): a draw where the number is unconfigured. -/
def State.pregRead (s : State) (i : Byte) : Word :=
  match (s.pregMeaning i).read with
  | .draw => Config.pregAnswer s.draws i
  | .own => s.PReg[i.toNat]
  | .fixed v => v
  | .state x => s.readTarget x

/-- The state after `PRegRead(i)`: a draw is used up where the number is unconfigured. -/
def State.afterPregRead (s : State) (i : Byte) : State :=
  match (s.pregMeaning i).read with
  | .draw => { s with draws := s.draws + 1 }
  | .own | .fixed _ | .state _ => s

/-- `PRegWrite(i, v)` (R33), at once (R323); refused where the number is unconfigured. -/
def State.pregWrite (s : State) (i : Byte) (v : Word) (k : State → Result) : Result :=
  match (s.pregMeaning i).write with
  | .refuse => .refused (.pregUnconfigured i)
  | .own => k (s.setPReg i v)
  | .ignore => k s
  | .state x => k (s.writeTarget x v)

end Sys2Proof.Machine
end

