-- ==== Sys2Proof/WellFormed.lean ====
section
/-! DEFINITION. Which instructions are well formed: the one restriction the spec puts on the operands
that the types of Syntax.lean do not carry already (R216). The other limits (Constants[n] with n below 12,
a decrementing kind only as a source, [S+1]+ only as Rc) are in the types (R89, R215). -/
namespace Sys2Proof

/-- The source is of kind Locals (R215). -/
def Src.isLocal : Src → Bool
  | .locals _ => true
  | .aux _ | .const _ | .top | .below | .topPop | .belowPop => false

/-- The source is of kind AuxRegs (R215). -/
def Src.isAux : Src → Bool
  | .aux _ => true
  | .locals _ | .const _ | .top | .below | .topPop | .belowPop => false

/-- The destination is of kind Locals (R215). -/
def Dst.isLocal : Dst → Bool
  | .locals _ => true
  | .aux _ | .const _ | .top | .below | .push => false

/-- The destination is of kind AuxRegs (R215). -/
def Dst.isAux : Dst → Bool
  | .aux _ => true
  | .locals _ | .const _ | .top | .below | .push => false

/-- "Locals and AuxRegs cannot be used in the same instruction." (R216) -/
def separateKinds (ra rb : Src) (rc : Dst) : Bool :=
  !((ra.isLocal || rb.isLocal || rc.isLocal) && (ra.isAux || rb.isAux || rc.isAux))

/-- The well-formed instructions: a form RR instruction keeps to R216; every other instruction is well
formed with any operands. -/
def Instr.wf (i : Instr) : Bool :=
  match i with
  | .ror srcA srcB dst => separateKinds srcA srcB dst
  | .rand srcA srcB dst => separateKinds srcA srcB dst
  | .rrx srcA srcB dst => separateKinds srcA srcB dst
  | .rbc srcA srcB dst => separateKinds srcA srcB dst
  | .radd srcA srcB dst => separateKinds srcA srcB dst
  | .rsub srcA srcB dst => separateKinds srcA srcB dst
  | .rladd srcA srcB dst => separateKinds srcA srcB dst
  | .rlsub srcA srcB dst => separateKinds srcA srcB dst
  | .rxor srcA srcB dst => separateKinds srcA srcB dst
  | .rfu srcA srcB dst => separateKinds srcA srcB dst
  | .rvadd srcA srcB dst => separateKinds srcA srcB dst
  | .rvsub srcA srcB dst => separateKinds srcA srcB dst
  | .ruadd srcA srcB dst => separateKinds srcA srcB dst
  | .rusub srcA srcB dst => separateKinds srcA srcB dst
  | .xop00 | .xop01 | .xop02 | .xop03 | .xop04 | .xop05 | .xop06 | .xop07 | .xop08 | .xop09 | .xop0A | .xop0B
  | .xop0C | .xop0D | .xop0E | .xop0F | .lc0 | .lc1 | .lc2 | .lc3 | .lc4 | .lc5 | .lc6 | .lc7 | .lc8 | .lc9
  | .lc10 | .lc11 | .xop1C | .xop1D | .xop1E | .xop1F | .xop20 _ _ _ _ | .xop21 _ _ _ _ | .xop22 _ _ _ _
  | .xop23 _ _ _ _ | .xop24 _ _ _ _ | .xop25 _ _ _ _ | .xop26 _ _ _ _ | .xop27 _ _ _ _ | .xop28 _ _ _ _
  | .xop29 _ _ _ _ | .xop2A _ _ _ _ | .xop2B _ _ _ _ | .xop2C _ _ _ _ | .xop2D _ _ _ _ | .xop2E _ _ _ _
  | .xop2F _ _ _ _ | .xop30 _ _ _ _ | .dfc _ _ _ _ | .liqb _ _ _ _ | .xop33 _ _ _ _ | .addqb _ _ _ _
  | .subqb _ _ _ _ | .j5 _ _ _ _ | .jqb _ _ _ _ | .xop38 _ _ _ _ | .xop39 _ _ _ _ | .xop3A _ _ _ _
  | .xop3B _ _ _ _ | .xop3C _ _ _ _ | .xop3D _ _ _ _ | .xop3E _ _ _ _ | .xop3F _ _ _ _ | .or | .and | .rx | .bc
  | .add | .sub | .ladd | .lsub | .dup | .dis | .xop4A | .exdis | .sfc | .sfci | .retn | .jsd | .xop50 | .xop51
  | .xop52 | .xop53 | .kfc | .xop55 | .j1 | .jsr | .xop58 | .xop59 | .xop5A | .xop5B | .xop5C | .xop5D | .xop5E
  | .xop5F | .lr0 | .lr1 | .lr2 | .lr3 | .lr4 | .lr5 | .lr6 | .lr7 | .lr8 | .lr9 | .lr10 | .lr11 | .lr12
  | .lr13 | .lr14 | .lr15 | .sr0 | .sr1 | .sr2 | .sr3 | .sr4 | .sr5 | .sr6 | .sr7 | .sr8 | .sr9 | .sr10 | .sr11
  | .sr12 | .sr13 | .sr14 | .sr15 | .qor _ _ | .qand _ _ | .qrx _ _ | .qbc _ _ | .qadd _ _ | .qsub _ _
  | .qladd _ _ | .qlsub _ _ | .als _ | .al _ | .asl _ | .as _ | .cst _ | .xop8D _ | .ret _ | .xop8F _ | .lip _
  | .sip _ | .lib _ | .xop93 _ | .addb _ | .subb _ | .j2 _ | .jb _ | .rb _ | .wb _ | .rsb _ | .wsb _ | .xop9C _
  | .xop9D _ | .xop9E _ | .psb _ | .lri0 _ | .lri1 _ | .lri2 _ | .lri3 _ | .lri4 _ | .lri5 _ | .lri6 _
  | .lri7 _ | .lri8 _ | .lri9 _ | .lri10 _ | .lri11 _ | .lri12 _ | .lri13 _ | .lri14 _ | .lri15 _ | .sri0 _
  | .sri1 _ | .sri2 _ | .sri3 _ | .sri4 _ | .sri5 _ | .sri6 _ | .sri7 _ | .sri8 _ | .sri9 _ | .sri10 _
  | .sri11 _ | .sri12 _ | .sri13 _ | .sri14 _ | .sri15 _ | .reservedC9 _ _ | .reservedCB _ _ | .lgf _ _
  | .lfc _ _ | .lidb _ _ | .fsdb _ _ | .adddb _ _ | .subdb _ _ | .j3 _ _ | .jdb _ _ | .rai _ _ _ | .wai _ _ _
  | .rri _ _ _ | .wri _ _ _ | .ioda _ _ | .iod _ _ | .ion _ _ | .reservedDF _ _ | .reservedE0 _ _ | .rjeb _ _ _
  | .rjlb _ _ _ | .rjleb _ _ _ | .reservedE4 _ _ | .rjneb _ _ _ | .rjgeb _ _ _ | .rjgb _ _ _ | .reservedE8 _ _
  | .rjnebj _ _ _ | .rjgebj _ _ _ | .rjgbj _ _ _ | .reservedEC _ _ | .rjebj _ _ _ | .rjlbj _ _ _
  | .rjlebj _ _ _ | .jebb _ _ | .jnebb _ _ | .jebbj _ _ | .jnebbj _ _ | .xopF4 _ _ | .xopF5 _ _ | .xopF6 _ _
  | .xopF7 _ _ | .shl _ _ | .shr _ _ | .shdl _ _ | .shdr _ _ | .xopFC _ _ | .xopFD _ _ | .xopFE _ _
  | .xopFF _ _ => true

end Sys2Proof
end

