-- ==== Sys2Proof/Machine/Operands.lean ====
section
/-! DEFINITION. The operand forms: the literals assembled from Alpha, Beta, Gamma, Delta (R72), and reading
and writing the operands of forms RR, QR and RJB (R215 to R218, R221, R260). -/
namespace Sys2Proof.Machine

/-- `AlphaZ`, `BetaZ`: a byte zero-extended (R8, R72). -/
def byteZ (b : Byte) : Word := b.setWidth 32

/-- `AlphaS`, `BetaS`: a byte sign-extended (R8, R72). -/
def byteS (b : Byte) : Word := b.signExtend 32

/-- `AlphaBeta`: 16 bits, Alpha the high byte (R72). -/
def alphaBeta (alpha beta : Byte) : BitVec 16 := alpha ++ beta

/-- `AlphaBetaZ` (R72). -/
def alphaBetaZ (alpha beta : Byte) : Word := (alphaBeta alpha beta).setWidth 32

/-- `AlphaBetaS` (R72). -/
def alphaBetaS (alpha beta : Byte) : Word := (alphaBeta alpha beta).signExtend 32

/-- `AlphaBetaGammaDelta`: 32 bits, Alpha the highest byte (R72). -/
def quad (alpha beta gamma delta : Byte) : Word := alpha ++ beta ++ gamma ++ delta

/-- `AlphaS` as an addend of `S` or `L`: the sum is taken modulo `NSTACK`, which divides 256, so the byte
itself serves (R130). -/
def alphaIdx (alpha : Byte) : StackIdx := alpha

/-- The value a source specifier reads, against the `S` of the state given (R217). -/
def State.readSrc (s : State) (x : Src) : Word :=
  match x with
  | .locals n => s.readR (s.localIdx n)
  | .aux n => s.readAux n
  | .const n => s.readConst n
  | .top => s.readR s.S
  | .below => s.readR (s.S - 1)
  | .topPop => s.readR s.S
  | .belowPop => s.readR (s.S - 1)

/-- How many elements a source specifier pops (R217). -/
def srcPops (x : Src) : StackIdx :=
  match x with
  | .topPop => 1
  | .belowPop => 1
  | .locals _ => 0
  | .aux _ => 0
  | .const _ => 0
  | .top => 0
  | .below => 0

/-- The `S` a stack destination is relative to (R218, D21, log 22). -/
def State.dstBase (s : State) (pops : StackIdx) : StackIdx :=
  match s.params.rcBase with
  | .postPop => s.S - pops
  | .prePop => s.S

/-- The write of the destination and the final `S` (R218), from the state whose `S` is `S0`. -/
def State.writeDst (s : State) (x : Dst) (pops : StackIdx) (r : Word) : State :=
  match x with
  | .locals n => (s.writeR (s.localIdx n) r).setS (s.S - pops)
  | .aux n => (s.writeAux n r).setS (s.S - pops)
  | .const n => (s.writeConst n r).setS (s.S - pops)
  | .top => (s.writeR (s.dstBase pops) r).setS (s.S - pops)
  | .below => (s.writeR (s.dstBase pops - 1) r).setS (s.S - pops)
  | .push => (s.writeR (s.dstBase pops + 1) r).setS (s.S - pops + 1)

/-- The source Ra of a form QR pair number (R221). -/
def qrSrc (sel : QrSel) : Src :=
  match sel with
  | .inPlace => .top
  | .pushTop => .top
  | .pushConst0 => .const 0
  | .pushConst1 => .const 1

/-- The destination Rc of a form QR pair number (R221). -/
def qrDst (sel : QrSel) : Dst :=
  match sel with
  | .inPlace => .top
  | .pushTop => .push
  | .pushConst0 => .push
  | .pushConst1 => .push

/-- The operand Rs of form RJB as a source specifier (R260). -/
def rjbSrc (rs : RjbSrc) : Src :=
  match rs with
  | .top => .top
  | .topPop => .topPop
  | .const0 => .const 0
  | .const1 => .const 1

end Sys2Proof.Machine
end

