-- ==== Sys2Proof/Machine/Alu.lean ====
section
/-! DEFINITION. The operations `OP(a, b, carry, Field)` of R222 and the shapes in which instructions use
them: on the two top elements, on the top and a literal, and on register operands (R219, R221, R261). -/
namespace Sys2Proof.Machine

/-- The operations of the map's columns (R222). -/
inductive AluOp where
  | or | and | rx | bc | add | sub | ladd | lsub
  | xor | fu | vadd | vsub | uadd | usub
deriving DecidableEq, Repr

/-- One operation on `a` and `b` (R222): the trap it may raise, else the result and the state with the
carry it leaves. `rx` reads memory at `a + b` (R220). -/
def State.alu (s : State) (op : AluOp) (a b : Word) (k : Word → State → Result) : Result :=
  match op with
  | .or => k (a ||| b) s
  | .and => k (a &&& b) s
  | .rx => s.memRead (a + b) fun m => k m s
  | .bc => if boundsFail a b then s.raise .boundsCheck else k a s
  | .add =>
    if (addOvf a b s.carry).2 then s.raise .overflow else k (addOvf a b s.carry).1 (s.setCarry false)
  | .sub =>
    if (subOvf a b s.carry).2 then s.raise .overflow else k (subOvf a b s.carry).1 (s.setCarry false)
  | .ladd => if s.isLispNaN a b (a + b) then s.raise .lispNaN else k (a + b) (s.setCarry false)
  | .lsub => if s.isLispNaN a b (a - b) then s.raise .lispNaN else k (a - b) (s.setCarry false)
  | .xor => k (a ^^^ b) s
  | .fu => k (Config.fieldUnit a b s.Field) s
  | .vadd => k (a + b) s
  | .vsub => k (a - b) s
  | .uadd => k (uAdd a b s.carry).1 (s.setCarry (uAdd a b s.carry).2)
  | .usub => k (uSub a b s.carry).1 (s.setCarry (uSub a b s.carry).2)

/-- A one-byte instruction that turns the two top elements into the result of `op` on `a` and `b` (R101):
`R[S-1] <- r; S <- S-1`. -/
def State.stackAlu (s : State) (op : AluOp) (a b : Word) : Result :=
  s.alu op a b fun r t => .next ((t.replaceTwo r).advance 1)

/-- An instruction of length `len` that replaces the top by the result of `op` on it and a literal (R131):
`R[S] <- r`. -/
def State.literalAlu (s : State) (op : AluOp) (v : Word) (len : Nat) : Result :=
  s.alu op (s.readR s.S) v fun r t => .next ((t.writeR t.S r).advance len)

/-- The operation on register operands of an instruction of length `len` (R219): both sources read against
the `S` at the start, then the operation, then the destination, `S` and `pc`. -/
def State.regAlu (s : State) (op : AluOp) (ra rb : Src) (rc : Dst) (len : Nat) : Result :=
  s.alu op (s.readSrc ra) (s.readSrc rb) fun r t =>
    .next ((t.writeDst rc (srcPops ra + srcPops rb) r).advance len)

/-- A form RR instruction (R219): operands that mix Locals and AuxRegs are refused (R216). -/
def State.formRR (s : State) (opcode : Byte) (op : AluOp) (ra rb : Src) (rc : Dst) : Result :=
  if separateKinds ra rb rc then s.regAlu op ra rb rc 3 else .refused (.illegalOperands opcode)

/-- A form QR instruction (R221): the RR operation of the same column with Ra and Rc from the pair. -/
def State.formQR (s : State) (op : AluOp) (sel : QrSel) (rb : Src) : Result :=
  s.regAlu op (qrSrc sel) rb (qrDst sel) 2

/-- The conditions of the jumps (R197, R198, R263 to R268), the ordered ones signed (D8). -/
inductive Cond where
  | eq | ne | lt | le | ge | gt
deriving DecidableEq, Repr

/-- Whether a condition holds of two words. -/
def Cond.holds (c : Cond) (a b : Word) : Bool :=
  match c with
  | .eq => a == b
  | .ne => a != b
  | .lt => decide (a.toInt < b.toInt)
  | .le => decide (a.toInt ≤ b.toInt)
  | .ge => decide (b.toInt ≤ a.toInt)
  | .gt => decide (b.toInt < a.toInt)

/-- A conditional jump of three bytes: to `pc + BetaS` if taken, else past the instruction (R195, R261). -/
def State.branch (s : State) (taken : Bool) (beta : Byte) : State :=
  if taken then s.jump (s.pc + byteS beta) else s.advance 3

/-- A form JBB instruction (R196 to R198): the test on the top and the literal AlphaZ, the pop whether or not
the jump is taken (D15, log 28). -/
def State.formJBB (s : State) (c : Cond) (alpha beta : Byte) : Result :=
  .next ((s.pop 1).branch (c.holds (s.readR s.S) (byteZ alpha)) beta)

/-- A form RJB instruction (R261): both operands read against the `S` at the start, the pops made whether or
not the jump is taken. -/
def State.formRJB (s : State) (c : Cond) (rs : RjbSrc) (rb : Src) (beta : Byte) : Result :=
  .next ((s.pop (srcPops (rjbSrc rs) + srcPops rb)).branch
    (c.holds (s.readSrc (rjbSrc rs)) (s.readSrc rb)) beta)

end Sys2Proof.Machine
end

