-- ==== Sys2Proof/Machine/FormJBB.lean ====
section
/-! DEFINITION. The instructions of form JBB (R195 to R198). The J opcodes do what the plain ones do (R195, D16, log 28). -/
namespace Sys2Proof.Machine

/-- JEBB, 0xF0 (R197): jumps to `pc + BetaS` if `R[S]` is AlphaZ; pops. -/
def execJebb (alpha beta : Byte) (s : State) : Result :=
  s.formJBB .eq alpha beta

/-- JNEBB, 0xF1 (R198): jumps to `pc + BetaS` if `R[S]` is not AlphaZ; pops. -/
def execJnebb (alpha beta : Byte) (s : State) : Result :=
  s.formJBB .ne alpha beta

/-- JEBBJ, 0xF2 (R197): jumps to `pc + BetaS` if `R[S]` is AlphaZ; pops. -/
def execJebbj (alpha beta : Byte) (s : State) : Result :=
  s.formJBB .eq alpha beta

/-- JNEBBJ, 0xF3 (R198): jumps to `pc + BetaS` if `R[S]` is not AlphaZ; pops. -/
def execJnebbj (alpha beta : Byte) (s : State) : Result :=
  s.formJBB .ne alpha beta

end Sys2Proof.Machine
end

