-- ==== Sys2Proof/Machine/FormLR.lean ====
section
/-! DEFINITION. The instructions of forms LR, LRB and LRRB, on local registers (R200 to R208). -/
namespace Sys2Proof.Machine

/-- `R[S+1] <- MemRead(R[L+n] + AlphaZ, 4); S <- S+1` (R203). -/
def State.loadThroughLocal (s : State) (n : Nibble) (alpha : Byte) : Result :=
  s.memRead (s.readR (s.localIdx n) + byteZ alpha) fun m => .next ((s.push m).advance 2)

/-- `MemWrite(R[L+n] + AlphaZ, 4, R[S]); S <- S-1` (R204). -/
def State.storeThroughLocal (s : State) (n : Nibble) (alpha : Byte) : Result :=
  s.memWrite (s.readR (s.localIdx n) + byteZ alpha) (s.readR s.S) fun t => .next ((t.pop 1).advance 2)

/-- LR0, 0x60 (R201): pushes `R[L+0]`. -/
def execLr0 (s : State) : Result :=
  .next ((s.push (s.readR (s.localIdx 0))).advance 1)

/-- LR1, 0x61 (R201): pushes `R[L+1]`. -/
def execLr1 (s : State) : Result :=
  .next ((s.push (s.readR (s.localIdx 1))).advance 1)

/-- LR2, 0x62 (R201): pushes `R[L+2]`. -/
def execLr2 (s : State) : Result :=
  .next ((s.push (s.readR (s.localIdx 2))).advance 1)

/-- LR3, 0x63 (R201): pushes `R[L+3]`. -/
def execLr3 (s : State) : Result :=
  .next ((s.push (s.readR (s.localIdx 3))).advance 1)

/-- LR4, 0x64 (R201): pushes `R[L+4]`. -/
def execLr4 (s : State) : Result :=
  .next ((s.push (s.readR (s.localIdx 4))).advance 1)

/-- LR5, 0x65 (R201): pushes `R[L+5]`. -/
def execLr5 (s : State) : Result :=
  .next ((s.push (s.readR (s.localIdx 5))).advance 1)

/-- LR6, 0x66 (R201): pushes `R[L+6]`. -/
def execLr6 (s : State) : Result :=
  .next ((s.push (s.readR (s.localIdx 6))).advance 1)

/-- LR7, 0x67 (R201): pushes `R[L+7]`. -/
def execLr7 (s : State) : Result :=
  .next ((s.push (s.readR (s.localIdx 7))).advance 1)

/-- LR8, 0x68 (R201): pushes `R[L+8]`. -/
def execLr8 (s : State) : Result :=
  .next ((s.push (s.readR (s.localIdx 8))).advance 1)

/-- LR9, 0x69 (R201): pushes `R[L+9]`. -/
def execLr9 (s : State) : Result :=
  .next ((s.push (s.readR (s.localIdx 9))).advance 1)

/-- LR10, 0x6A (R201): pushes `R[L+10]`. -/
def execLr10 (s : State) : Result :=
  .next ((s.push (s.readR (s.localIdx 10))).advance 1)

/-- LR11, 0x6B (R201): pushes `R[L+11]`. -/
def execLr11 (s : State) : Result :=
  .next ((s.push (s.readR (s.localIdx 11))).advance 1)

/-- LR12, 0x6C (R201): pushes `R[L+12]`. -/
def execLr12 (s : State) : Result :=
  .next ((s.push (s.readR (s.localIdx 12))).advance 1)

/-- LR13, 0x6D (R201): pushes `R[L+13]`. -/
def execLr13 (s : State) : Result :=
  .next ((s.push (s.readR (s.localIdx 13))).advance 1)

/-- LR14, 0x6E (R201): pushes `R[L+14]`. -/
def execLr14 (s : State) : Result :=
  .next ((s.push (s.readR (s.localIdx 14))).advance 1)

/-- LR15, 0x6F (R201): pushes `R[L+15]`. -/
def execLr15 (s : State) : Result :=
  .next ((s.push (s.readR (s.localIdx 15))).advance 1)

/-- SR0, 0x70 (R202): `R[L+0] <- R[S]; S <- S-1`. -/
def execSr0 (s : State) : Result :=
  .next (((s.writeR (s.localIdx 0) (s.readR s.S)).pop 1).advance 1)

/-- SR1, 0x71 (R202): `R[L+1] <- R[S]; S <- S-1`. -/
def execSr1 (s : State) : Result :=
  .next (((s.writeR (s.localIdx 1) (s.readR s.S)).pop 1).advance 1)

/-- SR2, 0x72 (R202): `R[L+2] <- R[S]; S <- S-1`. -/
def execSr2 (s : State) : Result :=
  .next (((s.writeR (s.localIdx 2) (s.readR s.S)).pop 1).advance 1)

/-- SR3, 0x73 (R202): `R[L+3] <- R[S]; S <- S-1`. -/
def execSr3 (s : State) : Result :=
  .next (((s.writeR (s.localIdx 3) (s.readR s.S)).pop 1).advance 1)

/-- SR4, 0x74 (R202): `R[L+4] <- R[S]; S <- S-1`. -/
def execSr4 (s : State) : Result :=
  .next (((s.writeR (s.localIdx 4) (s.readR s.S)).pop 1).advance 1)

/-- SR5, 0x75 (R202): `R[L+5] <- R[S]; S <- S-1`. -/
def execSr5 (s : State) : Result :=
  .next (((s.writeR (s.localIdx 5) (s.readR s.S)).pop 1).advance 1)

/-- SR6, 0x76 (R202): `R[L+6] <- R[S]; S <- S-1`. -/
def execSr6 (s : State) : Result :=
  .next (((s.writeR (s.localIdx 6) (s.readR s.S)).pop 1).advance 1)

/-- SR7, 0x77 (R202): `R[L+7] <- R[S]; S <- S-1`. -/
def execSr7 (s : State) : Result :=
  .next (((s.writeR (s.localIdx 7) (s.readR s.S)).pop 1).advance 1)

/-- SR8, 0x78 (R202): `R[L+8] <- R[S]; S <- S-1`. -/
def execSr8 (s : State) : Result :=
  .next (((s.writeR (s.localIdx 8) (s.readR s.S)).pop 1).advance 1)

/-- SR9, 0x79 (R202): `R[L+9] <- R[S]; S <- S-1`. -/
def execSr9 (s : State) : Result :=
  .next (((s.writeR (s.localIdx 9) (s.readR s.S)).pop 1).advance 1)

/-- SR10, 0x7A (R202): `R[L+10] <- R[S]; S <- S-1`. -/
def execSr10 (s : State) : Result :=
  .next (((s.writeR (s.localIdx 10) (s.readR s.S)).pop 1).advance 1)

/-- SR11, 0x7B (R202): `R[L+11] <- R[S]; S <- S-1`. -/
def execSr11 (s : State) : Result :=
  .next (((s.writeR (s.localIdx 11) (s.readR s.S)).pop 1).advance 1)

/-- SR12, 0x7C (R202): `R[L+12] <- R[S]; S <- S-1`. -/
def execSr12 (s : State) : Result :=
  .next (((s.writeR (s.localIdx 12) (s.readR s.S)).pop 1).advance 1)

/-- SR13, 0x7D (R202): `R[L+13] <- R[S]; S <- S-1`. -/
def execSr13 (s : State) : Result :=
  .next (((s.writeR (s.localIdx 13) (s.readR s.S)).pop 1).advance 1)

/-- SR14, 0x7E (R202): `R[L+14] <- R[S]; S <- S-1`. -/
def execSr14 (s : State) : Result :=
  .next (((s.writeR (s.localIdx 14) (s.readR s.S)).pop 1).advance 1)

/-- SR15, 0x7F (R202): `R[L+15] <- R[S]; S <- S-1`. -/
def execSr15 (s : State) : Result :=
  .next (((s.writeR (s.localIdx 15) (s.readR s.S)).pop 1).advance 1)

/-- LRI0, 0xA0 (R203): pushes `MemRead(R[L+0] + AlphaZ, 4)`. -/
def execLri0 (alpha : Byte) (s : State) : Result :=
  s.loadThroughLocal 0 alpha

/-- LRI1, 0xA1 (R203): pushes `MemRead(R[L+1] + AlphaZ, 4)`. -/
def execLri1 (alpha : Byte) (s : State) : Result :=
  s.loadThroughLocal 1 alpha

/-- LRI2, 0xA2 (R203): pushes `MemRead(R[L+2] + AlphaZ, 4)`. -/
def execLri2 (alpha : Byte) (s : State) : Result :=
  s.loadThroughLocal 2 alpha

/-- LRI3, 0xA3 (R203): pushes `MemRead(R[L+3] + AlphaZ, 4)`. -/
def execLri3 (alpha : Byte) (s : State) : Result :=
  s.loadThroughLocal 3 alpha

/-- LRI4, 0xA4 (R203): pushes `MemRead(R[L+4] + AlphaZ, 4)`. -/
def execLri4 (alpha : Byte) (s : State) : Result :=
  s.loadThroughLocal 4 alpha

/-- LRI5, 0xA5 (R203): pushes `MemRead(R[L+5] + AlphaZ, 4)`. -/
def execLri5 (alpha : Byte) (s : State) : Result :=
  s.loadThroughLocal 5 alpha

/-- LRI6, 0xA6 (R203): pushes `MemRead(R[L+6] + AlphaZ, 4)`. -/
def execLri6 (alpha : Byte) (s : State) : Result :=
  s.loadThroughLocal 6 alpha

/-- LRI7, 0xA7 (R203): pushes `MemRead(R[L+7] + AlphaZ, 4)`. -/
def execLri7 (alpha : Byte) (s : State) : Result :=
  s.loadThroughLocal 7 alpha

/-- LRI8, 0xA8 (R203): pushes `MemRead(R[L+8] + AlphaZ, 4)`. -/
def execLri8 (alpha : Byte) (s : State) : Result :=
  s.loadThroughLocal 8 alpha

/-- LRI9, 0xA9 (R203): pushes `MemRead(R[L+9] + AlphaZ, 4)`. -/
def execLri9 (alpha : Byte) (s : State) : Result :=
  s.loadThroughLocal 9 alpha

/-- LRI10, 0xAA (R203): pushes `MemRead(R[L+10] + AlphaZ, 4)`. -/
def execLri10 (alpha : Byte) (s : State) : Result :=
  s.loadThroughLocal 10 alpha

/-- LRI11, 0xAB (R203): pushes `MemRead(R[L+11] + AlphaZ, 4)`. -/
def execLri11 (alpha : Byte) (s : State) : Result :=
  s.loadThroughLocal 11 alpha

/-- LRI12, 0xAC (R203): pushes `MemRead(R[L+12] + AlphaZ, 4)`. -/
def execLri12 (alpha : Byte) (s : State) : Result :=
  s.loadThroughLocal 12 alpha

/-- LRI13, 0xAD (R203): pushes `MemRead(R[L+13] + AlphaZ, 4)`. -/
def execLri13 (alpha : Byte) (s : State) : Result :=
  s.loadThroughLocal 13 alpha

/-- LRI14, 0xAE (R203): pushes `MemRead(R[L+14] + AlphaZ, 4)`. -/
def execLri14 (alpha : Byte) (s : State) : Result :=
  s.loadThroughLocal 14 alpha

/-- LRI15, 0xAF (R203): pushes `MemRead(R[L+15] + AlphaZ, 4)`. -/
def execLri15 (alpha : Byte) (s : State) : Result :=
  s.loadThroughLocal 15 alpha

/-- SRI0, 0xB0 (R204): `MemWrite(R[L+0] + AlphaZ, 4, R[S]); S <- S-1`. -/
def execSri0 (alpha : Byte) (s : State) : Result :=
  s.storeThroughLocal 0 alpha

/-- SRI1, 0xB1 (R204): `MemWrite(R[L+1] + AlphaZ, 4, R[S]); S <- S-1`. -/
def execSri1 (alpha : Byte) (s : State) : Result :=
  s.storeThroughLocal 1 alpha

/-- SRI2, 0xB2 (R204): `MemWrite(R[L+2] + AlphaZ, 4, R[S]); S <- S-1`. -/
def execSri2 (alpha : Byte) (s : State) : Result :=
  s.storeThroughLocal 2 alpha

/-- SRI3, 0xB3 (R204): `MemWrite(R[L+3] + AlphaZ, 4, R[S]); S <- S-1`. -/
def execSri3 (alpha : Byte) (s : State) : Result :=
  s.storeThroughLocal 3 alpha

/-- SRI4, 0xB4 (R204): `MemWrite(R[L+4] + AlphaZ, 4, R[S]); S <- S-1`. -/
def execSri4 (alpha : Byte) (s : State) : Result :=
  s.storeThroughLocal 4 alpha

/-- SRI5, 0xB5 (R204): `MemWrite(R[L+5] + AlphaZ, 4, R[S]); S <- S-1`. -/
def execSri5 (alpha : Byte) (s : State) : Result :=
  s.storeThroughLocal 5 alpha

/-- SRI6, 0xB6 (R204): `MemWrite(R[L+6] + AlphaZ, 4, R[S]); S <- S-1`. -/
def execSri6 (alpha : Byte) (s : State) : Result :=
  s.storeThroughLocal 6 alpha

/-- SRI7, 0xB7 (R204): `MemWrite(R[L+7] + AlphaZ, 4, R[S]); S <- S-1`. -/
def execSri7 (alpha : Byte) (s : State) : Result :=
  s.storeThroughLocal 7 alpha

/-- SRI8, 0xB8 (R204): `MemWrite(R[L+8] + AlphaZ, 4, R[S]); S <- S-1`. -/
def execSri8 (alpha : Byte) (s : State) : Result :=
  s.storeThroughLocal 8 alpha

/-- SRI9, 0xB9 (R204): `MemWrite(R[L+9] + AlphaZ, 4, R[S]); S <- S-1`. -/
def execSri9 (alpha : Byte) (s : State) : Result :=
  s.storeThroughLocal 9 alpha

/-- SRI10, 0xBA (R204): `MemWrite(R[L+10] + AlphaZ, 4, R[S]); S <- S-1`. -/
def execSri10 (alpha : Byte) (s : State) : Result :=
  s.storeThroughLocal 10 alpha

/-- SRI11, 0xBB (R204): `MemWrite(R[L+11] + AlphaZ, 4, R[S]); S <- S-1`. -/
def execSri11 (alpha : Byte) (s : State) : Result :=
  s.storeThroughLocal 11 alpha

/-- SRI12, 0xBC (R204): `MemWrite(R[L+12] + AlphaZ, 4, R[S]); S <- S-1`. -/
def execSri12 (alpha : Byte) (s : State) : Result :=
  s.storeThroughLocal 12 alpha

/-- SRI13, 0xBD (R204): `MemWrite(R[L+13] + AlphaZ, 4, R[S]); S <- S-1`. -/
def execSri13 (alpha : Byte) (s : State) : Result :=
  s.storeThroughLocal 13 alpha

/-- SRI14, 0xBE (R204): `MemWrite(R[L+14] + AlphaZ, 4, R[S]); S <- S-1`. -/
def execSri14 (alpha : Byte) (s : State) : Result :=
  s.storeThroughLocal 14 alpha

/-- SRI15, 0xBF (R204): `MemWrite(R[L+15] + AlphaZ, 4, R[S]); S <- S-1`. -/
def execSri15 (alpha : Byte) (s : State) : Result :=
  s.storeThroughLocal 15 alpha

/-- RAI, 0xD8 (R205): `R[L+BetaL] <- MemRead(Aux[BetaR] + AlphaZ, 4)`. -/
def execRai (alpha : Byte) (betaL betaR : Nibble) (s : State) : Result :=
  s.memRead (s.readAux betaR + byteZ alpha) fun m => .next ((s.writeR (s.localIdx betaL) m).advance 3)

/-- WAI, 0xD9 (R207): `MemWrite(Aux[BetaR] + AlphaZ, 4, R[L+BetaL])`. -/
def execWai (alpha : Byte) (betaL betaR : Nibble) (s : State) : Result :=
  s.memWrite (s.readAux betaR + byteZ alpha) (s.readR (s.localIdx betaL)) fun t => .next (t.advance 3)

/-- RRI, 0xDA (R206): `R[L+BetaL] <- MemRead(R[L+BetaR] + AlphaZ, 4)`. -/
def execRri (alpha : Byte) (betaL betaR : Nibble) (s : State) : Result :=
  s.memRead (s.readR (s.localIdx betaR) + byteZ alpha) fun m =>
    .next ((s.writeR (s.localIdx betaL) m).advance 3)

/-- WRI, 0xDB (R208): `MemWrite(R[L+BetaR] + AlphaZ, 4, R[L+BetaL])`. -/
def execWri (alpha : Byte) (betaL betaR : Nibble) (s : State) : Result :=
  s.memWrite (s.readR (s.localIdx betaR) + byteZ alpha) (s.readR (s.localIdx betaL)) fun t =>
    .next (t.advance 3)

end Sys2Proof.Machine
end

