-- ==== Sys2Proof/Machine/FormOB.lean ====
section
/-! DEFINITION. The instructions of form OB, two bytes (R130 to R148). -/
namespace Sys2Proof.Machine

/-- ALS, 0x88 (R133): `L <- S + AlphaS` modulo NSTACK. -/
def execAls (alpha : Byte) (s : State) : Result :=
  .next ((s.setL (s.S + alphaIdx alpha)).advance 2)

/-- AL, 0x89 (R132): `L <- L + AlphaS` modulo NSTACK. -/
def execAl (alpha : Byte) (s : State) : Result :=
  .next ((s.setL (s.L + alphaIdx alpha)).advance 2)

/-- ASL, 0x8A (R135): `S <- L + AlphaS` modulo NSTACK. -/
def execAsl (alpha : Byte) (s : State) : Result :=
  .next ((s.setS (s.L + alphaIdx alpha)).advance 2)

/-- AS, 0x8B (R134): `S <- S + AlphaS` modulo NSTACK. -/
def execAs (alpha : Byte) (s : State) : Result :=
  .next ((s.setS (s.S + alphaIdx alpha)).advance 2)

/-- CST, 0x8C (R136): compare and swap (D20, log 27): reads the word at `R[S-2] + AlphaZ`, stores `R[S-1]` there if it equals
`R[S]`, pushes the word read. -/
def execCst (alpha : Byte) (s : State) : Result :=
  s.memRead (s.readR (s.S - 2) + byteZ alpha) fun m =>
    if m = s.readR s.S then
      s.memWrite (s.readR (s.S - 2) + byteZ alpha) (s.readR (s.S - 1)) fun t => .next ((t.push m).advance 2)
    else .next ((s.push m).advance 2)

/-- RET, 0x8E (R143): `S <- L + AlphaS` from the callee's `L`, then `Return()`. -/
def execRet (alpha : Byte) (s : State) : Result :=
  (s.setS (s.L + alphaIdx alpha)).ret

/-- LIP, 0x90 (R140): pushes `PRegRead(Alpha)` (log 18). -/
def execLip (alpha : Byte) (s : State) : Result :=
  .next (((s.afterPregRead alpha).push (s.pregRead alpha)).advance 2)

/-- SIP, 0x91 (R145): traps KernelOnly in user mode (D36); `PRegWrite(Alpha, R[S]); S <- S-1` (log 18). A number
that stands for `pc` sets it after the advance, as a jump does (D4). -/
def execSip (alpha : Byte) (s : State) : Result :=
  if s.kernel then
    (s.advance 2).pregWrite alpha (s.readR s.S) fun t => .next (t.pop 1)
  else s.raise .kernelOnly

/-- LIB, 0x92 (R139): pushes `AlphaZ`. -/
def execLib (alpha : Byte) (s : State) : Result :=
  .next ((s.push (byteZ alpha)).advance 2)

/-- ADDB, 0x94 (R131): `R[S] <- R[S] + AlphaZ + carry; carry <- 0`, traps on signed overflow. -/
def execAddb (alpha : Byte) (s : State) : Result :=
  s.literalAlu .add (byteZ alpha) 2

/-- SUBB, 0x95 (R146): `R[S] <- R[S] - AlphaZ - carry; carry <- 0` (D10, log 23), traps on signed overflow. -/
def execSubb (alpha : Byte) (s : State) : Result :=
  s.literalAlu .sub (byteZ alpha) 2

/-- J2, 0x96 (R137): `pc <- pc + 2`; Alpha is ignored. -/
def execJ2 (_alpha : Byte) (s : State) : Result :=
  .next (s.advance 2)

/-- JB, 0x97 (R138): `pc <- pc + AlphaS` (D3, log 24). -/
def execJb (alpha : Byte) (s : State) : Result :=
  .next (s.jump (s.pc + byteS alpha))

/-- RB, 0x98 (R142): `R[S] <- MemRead(R[S] + AlphaZ, 4)`. -/
def execRb (alpha : Byte) (s : State) : Result :=
  s.memRead (s.readR s.S + byteZ alpha) fun m => .next ((s.writeR s.S m).advance 2)

/-- WB, 0x99 (R147): `MemWrite(R[S] + AlphaZ, 4, R[S-1]); S <- S-2`. -/
def execWb (alpha : Byte) (s : State) : Result :=
  s.memWrite (s.readR s.S + byteZ alpha) (s.readR (s.S - 1)) fun t => .next ((t.pop 2).advance 2)

/-- RSB, 0x9A (R144): pushes `MemRead(R[S] + AlphaZ, 4)`. -/
def execRsb (alpha : Byte) (s : State) : Result :=
  s.memRead (s.readR s.S + byteZ alpha) fun m => .next ((s.push m).advance 2)

/-- WSB, 0x9B (R148): `MemWrite(R[S-1] + AlphaZ, 4, R[S]); S <- S-2`. -/
def execWsb (alpha : Byte) (s : State) : Result :=
  s.memWrite (s.readR (s.S - 1) + byteZ alpha) (s.readR s.S) fun t => .next ((t.pop 2).advance 2)

/-- PSB, 0x9F (R141): `MemWrite(R[S-1] + AlphaZ, 4, R[S]); S <- S-1`. -/
def execPsb (alpha : Byte) (s : State) : Result :=
  s.memWrite (s.readR (s.S - 1) + byteZ alpha) (s.readR s.S) fun t => .next ((t.pop 1).advance 2)

end Sys2Proof.Machine
end

