-- ==== Sys2Proof/Machine/FormODB.lean ====
section
/-! DEFINITION. The instructions of form ODB, three bytes (R160 to R176). -/
namespace Sys2Proof.Machine

/-- LGF, 0xD0 (R170): pushes `MemRead(Aux[0] + AlphaBetaZ, 4)`. -/
def execLgf (alpha beta : Byte) (s : State) : Result :=
  s.memRead (s.readAux 0 + alphaBetaZ alpha beta) fun m => .next ((s.push m).advance 3)

/-- LFC, 0xD1 (R169): `Call(pc + AlphaBetaS)` (D4, log 24). -/
def execLfc (alpha beta : Byte) (s : State) : Result :=
  s.call (s.pc + alphaBetaS alpha beta) 3

/-- LIDB, 0xD2 (R171): pushes `AlphaBetaZ`. -/
def execLidb (alpha beta : Byte) (s : State) : Result :=
  .next ((s.push (alphaBetaZ alpha beta)).advance 3)

/-- FSDB, 0xD3 (R162): `Field <- AlphaBetaZ + R[S]; S <- S-1`. -/
def execFsdb (alpha beta : Byte) (s : State) : Result :=
  .next (((s.setField (alphaBetaZ alpha beta + s.readR s.S)).pop 1).advance 3)

/-- ADDDB, 0xD4 (R161): `R[S] <- R[S] + AlphaBetaZ + carry; carry <- 0`, traps on signed overflow. -/
def execAdddb (alpha beta : Byte) (s : State) : Result :=
  s.literalAlu .add (alphaBetaZ alpha beta) 3

/-- SUBDB, 0xD5 (R176): `R[S] <- R[S] - AlphaBetaZ - carry; carry <- 0` (D10, log 23), traps on signed overflow. -/
def execSubdb (alpha beta : Byte) (s : State) : Result :=
  s.literalAlu .sub (alphaBetaZ alpha beta) 3

/-- J3, 0xD6 (R163): `pc <- pc + 3`; Alpha and Beta are ignored. -/
def execJ3 (_alpha _beta : Byte) (s : State) : Result :=
  .next (s.advance 3)

/-- JDB, 0xD7 (R164): `pc <- pc + AlphaBetaS`. -/
def execJdb (alpha beta : Byte) (s : State) : Result :=
  .next (s.jump (s.pc + alphaBetaS alpha beta))

/-- IODA, 0xDC (R168): with a read command the top, an address less AlphaZ, is replaced by the word read; with a write
command `PWrite(AlphaZ + R[S], BetaZ, R[S-1]); S <- S-2`. -/
def execIoda (alpha beta : Byte) (s : State) : Result :=
  s.busCommand 0xDC beta
    (.next (((s.afterBusRead (byteZ alpha + s.readR s.S) (byteZ beta)).writeR s.S
      (s.busAnswer (byteZ alpha + s.readR s.S) (byteZ beta))).advance 3))
    (.next (((s.afterBusWrite (byteZ alpha + s.readR s.S) (byteZ beta) (s.readR (s.S - 1))).pop 2).advance 3))

/-- IOD, 0xDD (R166): with a read command pushes `PRead(AlphaZ, BetaZ)`; with a write command
`PWrite(AlphaZ, BetaZ, R[S]); S <- S-1`. -/
def execIod (alpha beta : Byte) (s : State) : Result :=
  s.busCommand 0xDD beta
    (.next (((s.afterBusRead (byteZ alpha) (byteZ beta)).push
      (s.busAnswer (byteZ alpha) (byteZ beta))).advance 3))
    (.next (((s.afterBusWrite (byteZ alpha) (byteZ beta) (s.readR s.S)).pop 1).advance 3))

/-- ION, 0xDE (R167): as IOD, but `S` does not move: the word read is left in `R[S+1]`. -/
def execIon (alpha beta : Byte) (s : State) : Result :=
  s.busCommand 0xDE beta
    (.next (((s.afterBusRead (byteZ alpha) (byteZ beta)).writeR (s.S + 1)
      (s.busAnswer (byteZ alpha) (byteZ beta))).advance 3))
    (.next ((s.afterBusWrite (byteZ alpha) (byteZ beta) (s.readR s.S)).advance 3))

/-- SHL, 0xF8 (R174): `R[S] <- FieldUnit(R[S], 0, AlphaBetaZ)` (log 11). -/
def execShl (alpha beta : Byte) (s : State) : Result :=
  .next ((s.writeR s.S (Config.fieldUnit (s.readR s.S) 0 (alphaBetaZ alpha beta))).advance 3)

/-- SHR, 0xF9 (R175): `R[S] <- FieldUnit(R[S], R[S], AlphaBetaZ)` (log 11). -/
def execShr (alpha beta : Byte) (s : State) : Result :=
  .next ((s.writeR s.S (Config.fieldUnit (s.readR s.S) (s.readR s.S) (alphaBetaZ alpha beta))).advance 3)

/-- SHDL, 0xFA (R172): `R[S-1] <- FieldUnit(R[S-1], R[S], AlphaBetaZ); S <- S-1` (log 11). -/
def execShdl (alpha beta : Byte) (s : State) : Result :=
  .next ((s.replaceTwo
    (Config.fieldUnit (s.readR (s.S - 1)) (s.readR s.S) (alphaBetaZ alpha beta))).advance 3)

/-- SHDR, 0xFB (R173): `R[S-1] <- FieldUnit(R[S], R[S-1], AlphaBetaZ); S <- S-1` (log 11). -/
def execShdr (alpha beta : Byte) (s : State) : Result :=
  .next ((s.replaceTwo
    (Config.fieldUnit (s.readR s.S) (s.readR (s.S - 1)) (alphaBetaZ alpha beta))).advance 3)

end Sys2Proof.Machine
end

