-- ==== Sys2Proof/Machine/FormOI.lean ====
section
/-! DEFINITION. The instructions of form OI, one byte (R100 to R119). -/
namespace Sys2Proof.Machine

/-- OR, 0x40 (R114): `R[S-1] <- R[S] OR R[S-1]; S <- S-1`. -/
def execOr (s : State) : Result :=
  s.stackAlu .or (s.readR s.S) (s.readR (s.S - 1))

/-- AND, 0x41 (R102): `R[S-1] <- R[S] AND R[S-1]; S <- S-1`. -/
def execAnd (s : State) : Result :=
  s.stackAlu .and (s.readR s.S) (s.readR (s.S - 1))

/-- RX, 0x42 (R116): `R[S-1] <- MemRead(R[S-1] + R[S], 4); S <- S-1`. -/
def execRx (s : State) : Result :=
  s.stackAlu .rx (s.readR (s.S - 1)) (s.readR s.S)

/-- BC, 0x43 (R103): traps BoundsCheck unless `R[S-1] < R[S]` unsigned; `S <- S-1`, no register written. -/
def execBc (s : State) : Result :=
  s.alu .bc (s.readR (s.S - 1)) (s.readR s.S) fun _ t => .next ((t.pop 1).advance 1)

/-- ADD, 0x44 (R101): `R[S-1] <- R[S] + R[S-1] + carry; carry <- 0; S <- S-1`, traps on signed overflow. -/
def execAdd (s : State) : Result :=
  s.stackAlu .add (s.readR s.S) (s.readR (s.S - 1))

/-- SUB, 0x45 (R119): `R[S-1] <- R[S-1] - R[S] - carry; carry <- 0` (D10, log 23)`; S <- S-1`, traps on signed overflow. -/
def execSub (s : State) : Result :=
  s.stackAlu .sub (s.readR (s.S - 1)) (s.readR s.S)

/-- LADD, 0x46 (R111): `R[S-1] <- R[S-1] + R[S]; carry <- 0; S <- S-1`, traps on Lisp NaN (D12, log 23). -/
def execLadd (s : State) : Result :=
  s.stackAlu .ladd (s.readR (s.S - 1)) (s.readR s.S)

/-- LSUB, 0x47 (R113): `R[S-1] <- R[S-1] - R[S]; carry <- 0; S <- S-1`, traps on Lisp NaN (D12, log 23). -/
def execLsub (s : State) : Result :=
  s.stackAlu .lsub (s.readR (s.S - 1)) (s.readR s.S)

/-- DUP, 0x48 (R105): `R[S+1] <- R[S]; S <- S+1`. -/
def execDup (s : State) : Result :=
  .next ((s.push (s.readR s.S)).advance 1)

/-- DIS, 0x49 (R104): `S <- S-1`. -/
def execDis (s : State) : Result :=
  .next ((s.pop 1).advance 1)

/-- EXDIS, 0x4B (R106): `R[S-1] <- R[S]; S <- S-1`. -/
def execExdis (s : State) : Result :=
  .next ((s.replaceTwo (s.readR s.S)).advance 1)

/-- SFC, 0x4C (R117): `t = R[S]; S <- S-1; Call(t)`. -/
def execSfc (s : State) : Result :=
  (s.pop 1).call (s.readR s.S) 1

/-- SFCI, 0x4D (R118): `t = MemRead(R[S], 4)`; pops if `SFCI_POPS` (log 22); `Call(t)`. -/
def execSfci (s : State) : Result :=
  s.memRead (s.readR s.S) fun t => (if s.params.sfciPops then s.pop 1 else s).call t 1

/-- RETN, 0x4E (R115): `Return()`; `S` keeps its value. -/
def execRetn (s : State) : Result :=
  s.ret

/-- JSD, 0x4F (R108): `pc <- R[S]; S <- S-1`. -/
def execJsd (s : State) : Result :=
  .next ((s.pop 1).jump (s.readR s.S))

/-- KFC, 0x54 (R110): the entry to kernel mode (R285). -/
def execKfc (s : State) : Result :=
  s.enterKernel

/-- J1, 0x56 (R107): `pc <- pc + 1`. -/
def execJ1 (s : State) : Result :=
  .next (s.advance 1)

/-- JSR, 0x57 (R109): `pc <- pc + R[S]; S <- S-1`. -/
def execJsr (s : State) : Result :=
  .next ((s.pop 1).jump (s.pc + s.readR s.S))

/-- LC0, 0x10 (R112): pushes `Const[0]`. -/
def execLc0 (s : State) : Result :=
  .next ((s.push (s.readConst 0)).advance 1)

/-- LC1, 0x11 (R112): pushes `Const[1]`. -/
def execLc1 (s : State) : Result :=
  .next ((s.push (s.readConst 1)).advance 1)

/-- LC2, 0x12 (R112): pushes `Const[2]`. -/
def execLc2 (s : State) : Result :=
  .next ((s.push (s.readConst 2)).advance 1)

/-- LC3, 0x13 (R112): pushes `Const[3]`. -/
def execLc3 (s : State) : Result :=
  .next ((s.push (s.readConst 3)).advance 1)

/-- LC4, 0x14 (R112): pushes `Const[4]`. -/
def execLc4 (s : State) : Result :=
  .next ((s.push (s.readConst 4)).advance 1)

/-- LC5, 0x15 (R112): pushes `Const[5]`. -/
def execLc5 (s : State) : Result :=
  .next ((s.push (s.readConst 5)).advance 1)

/-- LC6, 0x16 (R112): pushes `Const[6]`. -/
def execLc6 (s : State) : Result :=
  .next ((s.push (s.readConst 6)).advance 1)

/-- LC7, 0x17 (R112): pushes `Const[7]`. -/
def execLc7 (s : State) : Result :=
  .next ((s.push (s.readConst 7)).advance 1)

/-- LC8, 0x18 (R112): pushes `Const[8]`. -/
def execLc8 (s : State) : Result :=
  .next ((s.push (s.readConst 8)).advance 1)

/-- LC9, 0x19 (R112): pushes `Const[9]`. -/
def execLc9 (s : State) : Result :=
  .next ((s.push (s.readConst 9)).advance 1)

/-- LC10, 0x1A (R112): pushes `Const[10]`. -/
def execLc10 (s : State) : Result :=
  .next ((s.push (s.readConst 10)).advance 1)

/-- LC11, 0x1B (R112): pushes `Const[11]`. -/
def execLc11 (s : State) : Result :=
  .next ((s.push (s.readConst 11)).advance 1)

end Sys2Proof.Machine
end

