-- ==== Sys2Proof/Machine/FormOQB.lean ====
section
/-! DEFINITION. The instructions of form OQB, five bytes; `Q` is AlphaBetaGammaDelta (R185 to R191). -/
namespace Sys2Proof.Machine

/-- DFC, 0x31 (R187): `Call(Q)`. -/
def execDfc (alpha beta gamma delta : Byte) (s : State) : Result :=
  s.call (quad alpha beta gamma delta) 5

/-- LIQB, 0x32 (R190): pushes `Q`. -/
def execLiqb (alpha beta gamma delta : Byte) (s : State) : Result :=
  .next ((s.push (quad alpha beta gamma delta)).advance 5)

/-- ADDQB, 0x34 (R186): `R[S] <- R[S] + Q + carry; carry <- 0`, traps on signed overflow. -/
def execAddqb (alpha beta gamma delta : Byte) (s : State) : Result :=
  s.literalAlu .add (quad alpha beta gamma delta) 5

/-- SUBQB, 0x35 (R191): `R[S] <- R[S] - Q - carry; carry <- 0` (C1, D10, log 23), traps on signed overflow. -/
def execSubqb (alpha beta gamma delta : Byte) (s : State) : Result :=
  s.literalAlu .sub (quad alpha beta gamma delta) 5

/-- J5, 0x36 (R188): `pc <- pc + 5`; the operand bytes are ignored. -/
def execJ5 (_alpha _beta _gamma _delta : Byte) (s : State) : Result :=
  .next (s.advance 5)

/-- JQB, 0x37 (R189): `pc <- Q`. -/
def execJqb (alpha beta gamma delta : Byte) (s : State) : Result :=
  .next (s.jump (quad alpha beta gamma delta))

end Sys2Proof.Machine
end

