-- ==== Sys2Proof/Machine/FormQR.lean ====
section
/-! DEFINITION. The instructions of form QR; `a` and `b` are the words Ra and Rb read (R221, R222, R240 to R247). -/
namespace Sys2Proof.Machine

/-- QOR, 0x80 (R245): Rc gets `a OR b`. -/
def execQor (sel : QrSel) (srcB : Src) (s : State) : Result :=
  s.formQR .or sel srcB

/-- QAND, 0x81 (R241): Rc gets `a AND b`. -/
def execQand (sel : QrSel) (srcB : Src) (s : State) : Result :=
  s.formQR .and sel srcB

/-- QRX, 0x82 (R246): Rc gets `MemRead(a + b, 4)`. -/
def execQrx (sel : QrSel) (srcB : Src) (s : State) : Result :=
  s.formQR .rx sel srcB

/-- QBC, 0x83 (R242): Rc gets `a`, traps BoundsCheck if `a >= b` unsigned. -/
def execQbc (sel : QrSel) (srcB : Src) (s : State) : Result :=
  s.formQR .bc sel srcB

/-- QADD, 0x84 (R240): Rc gets `a + b + carry`, carry cleared, traps on signed overflow. -/
def execQadd (sel : QrSel) (srcB : Src) (s : State) : Result :=
  s.formQR .add sel srcB

/-- QSUB, 0x85 (R247): Rc gets `a - b - carry`, carry cleared, traps on signed overflow. -/
def execQsub (sel : QrSel) (srcB : Src) (s : State) : Result :=
  s.formQR .sub sel srcB

/-- QLADD, 0x86 (R243): Rc gets `a + b`, carry cleared, traps on Lisp NaN. -/
def execQladd (sel : QrSel) (srcB : Src) (s : State) : Result :=
  s.formQR .ladd sel srcB

/-- QLSUB, 0x87 (R244): Rc gets `a - b`, carry cleared, traps on Lisp NaN. -/
def execQlsub (sel : QrSel) (srcB : Src) (s : State) : Result :=
  s.formQR .lsub sel srcB

end Sys2Proof.Machine
end

