-- ==== Sys2Proof/Machine/FormRJB.lean ====
section
/-! DEFINITION. The instructions of form RJB (R260 to R268). The J opcodes do what the plain ones do (R262, D16, log 28). -/
namespace Sys2Proof.Machine

/-- RJEB, 0xE1 (R263): jumps to `pc + BetaS` if `Rs = Rb`. -/
def execRjeb (srcS : RjbSrc) (srcB : Src) (beta : Byte) (s : State) : Result :=
  s.formRJB .eq srcS srcB beta

/-- RJLB, 0xE2 (R265): jumps to `pc + BetaS` if `Rs < Rb` (signed). -/
def execRjlb (srcS : RjbSrc) (srcB : Src) (beta : Byte) (s : State) : Result :=
  s.formRJB .lt srcS srcB beta

/-- RJLEB, 0xE3 (R266): jumps to `pc + BetaS` if `Rs <= Rb` (signed). -/
def execRjleb (srcS : RjbSrc) (srcB : Src) (beta : Byte) (s : State) : Result :=
  s.formRJB .le srcS srcB beta

/-- RJNEB, 0xE5 (R264): jumps to `pc + BetaS` if `Rs != Rb`. -/
def execRjneb (srcS : RjbSrc) (srcB : Src) (beta : Byte) (s : State) : Result :=
  s.formRJB .ne srcS srcB beta

/-- RJGEB, 0xE6 (R267): jumps to `pc + BetaS` if `Rs >= Rb` (signed). -/
def execRjgeb (srcS : RjbSrc) (srcB : Src) (beta : Byte) (s : State) : Result :=
  s.formRJB .ge srcS srcB beta

/-- RJGB, 0xE7 (R268): jumps to `pc + BetaS` if `Rs > Rb` (signed). -/
def execRjgb (srcS : RjbSrc) (srcB : Src) (beta : Byte) (s : State) : Result :=
  s.formRJB .gt srcS srcB beta

/-- RJNEBJ, 0xE9 (R264): jumps to `pc + BetaS` if `Rs != Rb`. -/
def execRjnebj (srcS : RjbSrc) (srcB : Src) (beta : Byte) (s : State) : Result :=
  s.formRJB .ne srcS srcB beta

/-- RJGEBJ, 0xEA (R267): jumps to `pc + BetaS` if `Rs >= Rb` (signed). -/
def execRjgebj (srcS : RjbSrc) (srcB : Src) (beta : Byte) (s : State) : Result :=
  s.formRJB .ge srcS srcB beta

/-- RJGBJ, 0xEB (R268): jumps to `pc + BetaS` if `Rs > Rb` (signed). -/
def execRjgbj (srcS : RjbSrc) (srcB : Src) (beta : Byte) (s : State) : Result :=
  s.formRJB .gt srcS srcB beta

/-- RJEBJ, 0xED (R263): jumps to `pc + BetaS` if `Rs = Rb`. -/
def execRjebj (srcS : RjbSrc) (srcB : Src) (beta : Byte) (s : State) : Result :=
  s.formRJB .eq srcS srcB beta

/-- RJLBJ, 0xEE (R265): jumps to `pc + BetaS` if `Rs < Rb` (signed). -/
def execRjlbj (srcS : RjbSrc) (srcB : Src) (beta : Byte) (s : State) : Result :=
  s.formRJB .lt srcS srcB beta

/-- RJLEBJ, 0xEF (R266): jumps to `pc + BetaS` if `Rs <= Rb` (signed). -/
def execRjlebj (srcS : RjbSrc) (srcB : Src) (beta : Byte) (s : State) : Result :=
  s.formRJB .le srcS srcB beta

end Sys2Proof.Machine
end

