-- ==== Sys2Proof/Machine/FormRR.lean ====
section
/-! DEFINITION. The instructions of form RR; `a` and `b` are the words Ra and Rb read (R219, R222, R225 to R238). -/
namespace Sys2Proof.Machine

/-- ROR, 0xC0 (R231): Rc gets `a OR b`. -/
def execRor (srcA srcB : Src) (dst : Dst) (s : State) : Result :=
  s.formRR 0xC0 .or srcA srcB dst

/-- RAND, 0xC1 (R226): Rc gets `a AND b`. -/
def execRand (srcA srcB : Src) (dst : Dst) (s : State) : Result :=
  s.formRR 0xC1 .and srcA srcB dst

/-- RRX, 0xC2 (R232): Rc gets `MemRead(a + b, 4)`. -/
def execRrx (srcA srcB : Src) (dst : Dst) (s : State) : Result :=
  s.formRR 0xC2 .rx srcA srcB dst

/-- RBC, 0xC3 (R227): Rc gets `a`, traps BoundsCheck if `a >= b` unsigned. -/
def execRbc (srcA srcB : Src) (dst : Dst) (s : State) : Result :=
  s.formRR 0xC3 .bc srcA srcB dst

/-- RADD, 0xC4 (R225): Rc gets `a + b + carry`, carry cleared, traps on signed overflow. -/
def execRadd (srcA srcB : Src) (dst : Dst) (s : State) : Result :=
  s.formRR 0xC4 .add srcA srcB dst

/-- RSUB, 0xC5 (R233): Rc gets `a - b - carry`, carry cleared, traps on signed overflow. -/
def execRsub (srcA srcB : Src) (dst : Dst) (s : State) : Result :=
  s.formRR 0xC5 .sub srcA srcB dst

/-- RLADD, 0xC6 (R229): Rc gets `a + b`, carry cleared, traps on Lisp NaN. -/
def execRladd (srcA srcB : Src) (dst : Dst) (s : State) : Result :=
  s.formRR 0xC6 .ladd srcA srcB dst

/-- RLSUB, 0xC7 (R230): Rc gets `a - b`, carry cleared, traps on Lisp NaN. -/
def execRlsub (srcA srcB : Src) (dst : Dst) (s : State) : Result :=
  s.formRR 0xC7 .lsub srcA srcB dst

/-- RXOR, 0xC8 (R238): Rc gets `a XOR b`. -/
def execRxor (srcA srcB : Src) (dst : Dst) (s : State) : Result :=
  s.formRR 0xC8 .xor srcA srcB dst

/-- RFU, 0xCA (R228): Rc gets `FieldUnit(a, b, Field)` (log 11). -/
def execRfu (srcA srcB : Src) (dst : Dst) (s : State) : Result :=
  s.formRR 0xCA .fu srcA srcB dst

/-- RVADD, 0xCC (R236): Rc gets `a + b`, carry untouched. -/
def execRvadd (srcA srcB : Src) (dst : Dst) (s : State) : Result :=
  s.formRR 0xCC .vadd srcA srcB dst

/-- RVSUB, 0xCD (R237): Rc gets `a - b`, carry untouched. -/
def execRvsub (srcA srcB : Src) (dst : Dst) (s : State) : Result :=
  s.formRR 0xCD .vsub srcA srcB dst

/-- RUADD, 0xCE (R234): Rc gets `a + b + carry`, carry the carry out (D11). -/
def execRuadd (srcA srcB : Src) (dst : Dst) (s : State) : Result :=
  s.formRR 0xCE .uadd srcA srcB dst

/-- RUSUB, 0xCF (R235): Rc gets `a - b - carry`, carry the borrow out (D11). -/
def execRusub (srcA srcB : Src) (dst : Dst) (s : State) : Result :=
  s.formRR 0xCF .usub srcA srcB dst

end Sys2Proof.Machine
end

