-- ==== Sys2Proof/Machine/Reserved.lean ====
section
/-! DEFINITION. The seven reserved opcodes (R277, log 32). -/
namespace Sys2Proof.Machine

/-- reserved_C9, 0xC9 (R277): "Undefined behavior (reserved instruction)", refused. -/
def execReservedC9 (_alpha _beta : Byte) (_s : State) : Result :=
  .refused (.reserved 0xC9)

/-- reserved_CB, 0xCB (R277): "Undefined behavior (reserved instruction)", refused. -/
def execReservedCB (_alpha _beta : Byte) (_s : State) : Result :=
  .refused (.reserved 0xCB)

/-- reserved_DF, 0xDF (R277): "Undefined behavior (reserved instruction)", refused. -/
def execReservedDF (_alpha _beta : Byte) (_s : State) : Result :=
  .refused (.reserved 0xDF)

/-- reserved_E0, 0xE0 (R277): "Undefined behavior (reserved instruction)", refused. -/
def execReservedE0 (_alpha _beta : Byte) (_s : State) : Result :=
  .refused (.reserved 0xE0)

/-- reserved_E4, 0xE4 (R277): "Undefined behavior (reserved instruction)", refused. -/
def execReservedE4 (_alpha _beta : Byte) (_s : State) : Result :=
  .refused (.reserved 0xE4)

/-- reserved_E8, 0xE8 (R277): "Undefined behavior (reserved instruction)", refused. -/
def execReservedE8 (_alpha _beta : Byte) (_s : State) : Result :=
  .refused (.reserved 0xE8)

/-- reserved_EC, 0xEC (R277): "Undefined behavior (reserved instruction)", refused. -/
def execReservedEC (_alpha _beta : Byte) (_s : State) : Result :=
  .refused (.reserved 0xEC)

end Sys2Proof.Machine
end

