-- ==== Sys2Proof/Machine/Xop.lean ====
section
/-! DEFINITION. The 74 xop opcodes (R275, R276, R278). -/
namespace Sys2Proof.Machine

/-- xop_00, 0x00 (R275): the Xop trap, form OI, length 1 (R278). -/
def execXop00 (s : State) : Result :=
  s.takeXop 0x00 1 []

/-- xop_01, 0x01 (R275): the Xop trap, form OI, length 1 (R278). -/
def execXop01 (s : State) : Result :=
  s.takeXop 0x01 1 []

/-- xop_02, 0x02 (R275): the Xop trap, form OI, length 1 (R278). -/
def execXop02 (s : State) : Result :=
  s.takeXop 0x02 1 []

/-- xop_03, 0x03 (R275): the Xop trap, form OI, length 1 (R278). -/
def execXop03 (s : State) : Result :=
  s.takeXop 0x03 1 []

/-- xop_04, 0x04 (R275): the Xop trap, form OI, length 1 (R278). -/
def execXop04 (s : State) : Result :=
  s.takeXop 0x04 1 []

/-- xop_05, 0x05 (R275): the Xop trap, form OI, length 1 (R278). -/
def execXop05 (s : State) : Result :=
  s.takeXop 0x05 1 []

/-- xop_06, 0x06 (R275): the Xop trap, form OI, length 1 (R278). -/
def execXop06 (s : State) : Result :=
  s.takeXop 0x06 1 []

/-- xop_07, 0x07 (R275): the Xop trap, form OI, length 1 (R278). -/
def execXop07 (s : State) : Result :=
  s.takeXop 0x07 1 []

/-- xop_08, 0x08 (R275): the Xop trap, form OI, length 1 (R278). -/
def execXop08 (s : State) : Result :=
  s.takeXop 0x08 1 []

/-- xop_09, 0x09 (R275): the Xop trap, form OI, length 1 (R278). -/
def execXop09 (s : State) : Result :=
  s.takeXop 0x09 1 []

/-- xop_0A, 0x0A (R275): the Xop trap, form OI, length 1 (R278). -/
def execXop0A (s : State) : Result :=
  s.takeXop 0x0A 1 []

/-- xop_0B, 0x0B (R275): the Xop trap, form OI, length 1 (R278). -/
def execXop0B (s : State) : Result :=
  s.takeXop 0x0B 1 []

/-- xop_0C, 0x0C (R275): the Xop trap, form OI, length 1 (R278). -/
def execXop0C (s : State) : Result :=
  s.takeXop 0x0C 1 []

/-- xop_0D, 0x0D (R275): the Xop trap, form OI, length 1 (R278). -/
def execXop0D (s : State) : Result :=
  s.takeXop 0x0D 1 []

/-- xop_0E, 0x0E (R275): the Xop trap, form OI, length 1 (R278). -/
def execXop0E (s : State) : Result :=
  s.takeXop 0x0E 1 []

/-- xop_0F, 0x0F (R275): the Xop trap, form OI, length 1 (R278). -/
def execXop0F (s : State) : Result :=
  s.takeXop 0x0F 1 []

/-- xop_1C, 0x1C (R275): the Xop trap, form OI, length 1 (R278). -/
def execXop1C (s : State) : Result :=
  s.takeXop 0x1C 1 []

/-- xop_1D, 0x1D (R275): the Xop trap, form OI, length 1 (R278). -/
def execXop1D (s : State) : Result :=
  s.takeXop 0x1D 1 []

/-- xop_1E, 0x1E (R275): the Xop trap, form OI, length 1 (R278). -/
def execXop1E (s : State) : Result :=
  s.takeXop 0x1E 1 []

/-- xop_1F, 0x1F (R275): the Xop trap, form OI, length 1 (R278). -/
def execXop1F (s : State) : Result :=
  s.takeXop 0x1F 1 []

/-- xop_20, 0x20 (R275): the Xop trap, form OQB, length 5 (R278). -/
def execXop20 (alpha beta gamma delta : Byte) (s : State) : Result :=
  s.takeXop 0x20 5 [alpha, beta, gamma, delta]

/-- xop_21, 0x21 (R275): the Xop trap, form OQB, length 5 (R278). -/
def execXop21 (alpha beta gamma delta : Byte) (s : State) : Result :=
  s.takeXop 0x21 5 [alpha, beta, gamma, delta]

/-- xop_22, 0x22 (R275): the Xop trap, form OQB, length 5 (R278). -/
def execXop22 (alpha beta gamma delta : Byte) (s : State) : Result :=
  s.takeXop 0x22 5 [alpha, beta, gamma, delta]

/-- xop_23, 0x23 (R275): the Xop trap, form OQB, length 5 (R278). -/
def execXop23 (alpha beta gamma delta : Byte) (s : State) : Result :=
  s.takeXop 0x23 5 [alpha, beta, gamma, delta]

/-- xop_24, 0x24 (R275): the Xop trap, form OQB, length 5 (R278). -/
def execXop24 (alpha beta gamma delta : Byte) (s : State) : Result :=
  s.takeXop 0x24 5 [alpha, beta, gamma, delta]

/-- xop_25, 0x25 (R275): the Xop trap, form OQB, length 5 (R278). -/
def execXop25 (alpha beta gamma delta : Byte) (s : State) : Result :=
  s.takeXop 0x25 5 [alpha, beta, gamma, delta]

/-- xop_26, 0x26 (R275): the Xop trap, form OQB, length 5 (R278). -/
def execXop26 (alpha beta gamma delta : Byte) (s : State) : Result :=
  s.takeXop 0x26 5 [alpha, beta, gamma, delta]

/-- xop_27, 0x27 (R275): the Xop trap, form OQB, length 5 (R278). -/
def execXop27 (alpha beta gamma delta : Byte) (s : State) : Result :=
  s.takeXop 0x27 5 [alpha, beta, gamma, delta]

/-- xop_28, 0x28 (R275): the Xop trap, form OQB, length 5 (R278). -/
def execXop28 (alpha beta gamma delta : Byte) (s : State) : Result :=
  s.takeXop 0x28 5 [alpha, beta, gamma, delta]

/-- xop_29, 0x29 (R275): the Xop trap, form OQB, length 5 (R278). -/
def execXop29 (alpha beta gamma delta : Byte) (s : State) : Result :=
  s.takeXop 0x29 5 [alpha, beta, gamma, delta]

/-- xop_2A, 0x2A (R275): the Xop trap, form OQB, length 5 (R278). -/
def execXop2A (alpha beta gamma delta : Byte) (s : State) : Result :=
  s.takeXop 0x2A 5 [alpha, beta, gamma, delta]

/-- xop_2B, 0x2B (R275): the Xop trap, form OQB, length 5 (R278). -/
def execXop2B (alpha beta gamma delta : Byte) (s : State) : Result :=
  s.takeXop 0x2B 5 [alpha, beta, gamma, delta]

/-- xop_2C, 0x2C (R275): the Xop trap, form OQB, length 5 (R278). -/
def execXop2C (alpha beta gamma delta : Byte) (s : State) : Result :=
  s.takeXop 0x2C 5 [alpha, beta, gamma, delta]

/-- xop_2D, 0x2D (R275): the Xop trap, form OQB, length 5 (R278). -/
def execXop2D (alpha beta gamma delta : Byte) (s : State) : Result :=
  s.takeXop 0x2D 5 [alpha, beta, gamma, delta]

/-- xop_2E, 0x2E (R275): the Xop trap, form OQB, length 5 (R278). -/
def execXop2E (alpha beta gamma delta : Byte) (s : State) : Result :=
  s.takeXop 0x2E 5 [alpha, beta, gamma, delta]

/-- xop_2F, 0x2F (R275): the Xop trap, form OQB, length 5 (R278). -/
def execXop2F (alpha beta gamma delta : Byte) (s : State) : Result :=
  s.takeXop 0x2F 5 [alpha, beta, gamma, delta]

/-- xop_30, 0x30 (R275): the Xop trap, form OQB, length 5 (R278). -/
def execXop30 (alpha beta gamma delta : Byte) (s : State) : Result :=
  s.takeXop 0x30 5 [alpha, beta, gamma, delta]

/-- xop_33, 0x33 (R275): the Xop trap, form OQB, length 5 (R278). -/
def execXop33 (alpha beta gamma delta : Byte) (s : State) : Result :=
  s.takeXop 0x33 5 [alpha, beta, gamma, delta]

/-- xop_38, 0x38 (R275): the Xop trap, form OQB, length 5 (R278). -/
def execXop38 (alpha beta gamma delta : Byte) (s : State) : Result :=
  s.takeXop 0x38 5 [alpha, beta, gamma, delta]

/-- xop_39, 0x39 (R275): the Xop trap, form OQB, length 5 (R278). -/
def execXop39 (alpha beta gamma delta : Byte) (s : State) : Result :=
  s.takeXop 0x39 5 [alpha, beta, gamma, delta]

/-- xop_3A, 0x3A (R275): the Xop trap, form OQB, length 5 (R278). -/
def execXop3A (alpha beta gamma delta : Byte) (s : State) : Result :=
  s.takeXop 0x3A 5 [alpha, beta, gamma, delta]

/-- xop_3B, 0x3B (R275): the Xop trap, form OQB, length 5 (R278). -/
def execXop3B (alpha beta gamma delta : Byte) (s : State) : Result :=
  s.takeXop 0x3B 5 [alpha, beta, gamma, delta]

/-- xop_3C, 0x3C (R275): the Xop trap, form OQB, length 5 (R278). -/
def execXop3C (alpha beta gamma delta : Byte) (s : State) : Result :=
  s.takeXop 0x3C 5 [alpha, beta, gamma, delta]

/-- xop_3D, 0x3D (R275): the Xop trap, form OQB, length 5 (R278). -/
def execXop3D (alpha beta gamma delta : Byte) (s : State) : Result :=
  s.takeXop 0x3D 5 [alpha, beta, gamma, delta]

/-- xop_3E, 0x3E (R275): the Xop trap, form OQB, length 5 (R278). -/
def execXop3E (alpha beta gamma delta : Byte) (s : State) : Result :=
  s.takeXop 0x3E 5 [alpha, beta, gamma, delta]

/-- xop_3F, 0x3F (R275): the Xop trap, form OQB, length 5 (R278). -/
def execXop3F (alpha beta gamma delta : Byte) (s : State) : Result :=
  s.takeXop 0x3F 5 [alpha, beta, gamma, delta]

/-- xop_4A, 0x4A (R275): the Xop trap, form OI, length 1 (R278). -/
def execXop4A (s : State) : Result :=
  s.takeXop 0x4A 1 []

/-- xop_50, 0x50 (R275): the Xop trap, form OI, length 1 (R278). -/
def execXop50 (s : State) : Result :=
  s.takeXop 0x50 1 []

/-- xop_51, 0x51 (R275): the Xop trap, form OI, length 1 (R278). -/
def execXop51 (s : State) : Result :=
  s.takeXop 0x51 1 []

/-- xop_52, 0x52 (R275): the Xop trap, form OI, length 1 (R278). -/
def execXop52 (s : State) : Result :=
  s.takeXop 0x52 1 []

/-- xop_53, 0x53 (R275): the Xop trap, form OI, length 1 (R278). -/
def execXop53 (s : State) : Result :=
  s.takeXop 0x53 1 []

/-- xop_55, 0x55 (R275): the Xop trap, form OI, length 1 (R278). -/
def execXop55 (s : State) : Result :=
  s.takeXop 0x55 1 []

/-- xop_58, 0x58 (R275): the Xop trap, form OI, length 1 (R278). -/
def execXop58 (s : State) : Result :=
  s.takeXop 0x58 1 []

/-- xop_59, 0x59 (R275): the Xop trap, form OI, length 1 (R278). -/
def execXop59 (s : State) : Result :=
  s.takeXop 0x59 1 []

/-- xop_5A, 0x5A (R275): the Xop trap, form OI, length 1 (R278). -/
def execXop5A (s : State) : Result :=
  s.takeXop 0x5A 1 []

/-- xop_5B, 0x5B (R275): the Xop trap, form OI, length 1 (R278). -/
def execXop5B (s : State) : Result :=
  s.takeXop 0x5B 1 []

/-- xop_5C, 0x5C (R275): the Xop trap, form OI, length 1 (R278). -/
def execXop5C (s : State) : Result :=
  s.takeXop 0x5C 1 []

/-- xop_5D, 0x5D (R275): the Xop trap, form OI, length 1 (R278). -/
def execXop5D (s : State) : Result :=
  s.takeXop 0x5D 1 []

/-- xop_5E, 0x5E (R275): the Xop trap, form OI, length 1 (R278). -/
def execXop5E (s : State) : Result :=
  s.takeXop 0x5E 1 []

/-- xop_5F, 0x5F (R275): the Xop trap, form OI, length 1 (R278). -/
def execXop5F (s : State) : Result :=
  s.takeXop 0x5F 1 []

/-- xop_8D, 0x8D (R275): the Xop trap, form OB, length 2 (R278). -/
def execXop8D (alpha : Byte) (s : State) : Result :=
  s.takeXop 0x8D 2 [alpha]

/-- xop_8F, 0x8F (R275): the Xop trap, form OB, length 2 (R278). -/
def execXop8F (alpha : Byte) (s : State) : Result :=
  s.takeXop 0x8F 2 [alpha]

/-- xop_93, 0x93 (R275): the Xop trap, form OB, length 2 (R278). -/
def execXop93 (alpha : Byte) (s : State) : Result :=
  s.takeXop 0x93 2 [alpha]

/-- xop_9C, 0x9C (R275): the Xop trap, form OB, length 2 (R278). -/
def execXop9C (alpha : Byte) (s : State) : Result :=
  s.takeXop 0x9C 2 [alpha]

/-- xop_9D, 0x9D (R275): the Xop trap, form OB, length 2 (R278). -/
def execXop9D (alpha : Byte) (s : State) : Result :=
  s.takeXop 0x9D 2 [alpha]

/-- xop_9E, 0x9E (R275): the Xop trap, form OB, length 2 (R278). -/
def execXop9E (alpha : Byte) (s : State) : Result :=
  s.takeXop 0x9E 2 [alpha]

/-- xop_F4, 0xF4 (R275): the Xop trap, form JBB, length 3 (R278). -/
def execXopF4 (alpha beta : Byte) (s : State) : Result :=
  s.takeXop 0xF4 3 [alpha, beta]

/-- xop_F5, 0xF5 (R275): the Xop trap, form JBB, length 3 (R278). -/
def execXopF5 (alpha beta : Byte) (s : State) : Result :=
  s.takeXop 0xF5 3 [alpha, beta]

/-- xop_F6, 0xF6 (R275): the Xop trap, form JBB, length 3 (R278). -/
def execXopF6 (alpha beta : Byte) (s : State) : Result :=
  s.takeXop 0xF6 3 [alpha, beta]

/-- xop_F7, 0xF7 (R275): the Xop trap, form JBB, length 3 (R278). -/
def execXopF7 (alpha beta : Byte) (s : State) : Result :=
  s.takeXop 0xF7 3 [alpha, beta]

/-- xop_FC, 0xFC (R275): the Xop trap, form ODB, length 3 (R278). -/
def execXopFC (alpha beta : Byte) (s : State) : Result :=
  s.takeXop 0xFC 3 [alpha, beta]

/-- xop_FD, 0xFD (R275): the Xop trap, form ODB, length 3 (R278). -/
def execXopFD (alpha beta : Byte) (s : State) : Result :=
  s.takeXop 0xFD 3 [alpha, beta]

/-- xop_FE, 0xFE (R275): the Xop trap, form ODB, length 3 (R278). -/
def execXopFE (alpha beta : Byte) (s : State) : Result :=
  s.takeXop 0xFE 3 [alpha, beta]

/-- xop_FF, 0xFF (R275): the Xop trap, form ODB, length 3 (R278). -/
def execXopFF (alpha beta : Byte) (s : State) : Result :=
  s.takeXop 0xFF 3 [alpha, beta]

end Sys2Proof.Machine
end

