-- ==== Sys2Proof/Machine/Dispatch.lean ====
section
/-! DEFINITION. The meaning of each instruction, one arm for each constructor, in the order of the opcode byte (R85, R326). -/
namespace Sys2Proof.Machine

def exec (i : Instr) (s : State) : Host.Outcome State Fault Refusal :=
  match i with
  | .xop00 => Sys2Proof.Machine.execXop00 s
  | .xop01 => Sys2Proof.Machine.execXop01 s
  | .xop02 => Sys2Proof.Machine.execXop02 s
  | .xop03 => Sys2Proof.Machine.execXop03 s
  | .xop04 => Sys2Proof.Machine.execXop04 s
  | .xop05 => Sys2Proof.Machine.execXop05 s
  | .xop06 => Sys2Proof.Machine.execXop06 s
  | .xop07 => Sys2Proof.Machine.execXop07 s
  | .xop08 => Sys2Proof.Machine.execXop08 s
  | .xop09 => Sys2Proof.Machine.execXop09 s
  | .xop0A => Sys2Proof.Machine.execXop0A s
  | .xop0B => Sys2Proof.Machine.execXop0B s
  | .xop0C => Sys2Proof.Machine.execXop0C s
  | .xop0D => Sys2Proof.Machine.execXop0D s
  | .xop0E => Sys2Proof.Machine.execXop0E s
  | .xop0F => Sys2Proof.Machine.execXop0F s
  | .lc0 => Sys2Proof.Machine.execLc0 s
  | .lc1 => Sys2Proof.Machine.execLc1 s
  | .lc2 => Sys2Proof.Machine.execLc2 s
  | .lc3 => Sys2Proof.Machine.execLc3 s
  | .lc4 => Sys2Proof.Machine.execLc4 s
  | .lc5 => Sys2Proof.Machine.execLc5 s
  | .lc6 => Sys2Proof.Machine.execLc6 s
  | .lc7 => Sys2Proof.Machine.execLc7 s
  | .lc8 => Sys2Proof.Machine.execLc8 s
  | .lc9 => Sys2Proof.Machine.execLc9 s
  | .lc10 => Sys2Proof.Machine.execLc10 s
  | .lc11 => Sys2Proof.Machine.execLc11 s
  | .xop1C => Sys2Proof.Machine.execXop1C s
  | .xop1D => Sys2Proof.Machine.execXop1D s
  | .xop1E => Sys2Proof.Machine.execXop1E s
  | .xop1F => Sys2Proof.Machine.execXop1F s
  | .xop20 alpha beta gamma delta => Sys2Proof.Machine.execXop20 alpha beta gamma delta s
  | .xop21 alpha beta gamma delta => Sys2Proof.Machine.execXop21 alpha beta gamma delta s
  | .xop22 alpha beta gamma delta => Sys2Proof.Machine.execXop22 alpha beta gamma delta s
  | .xop23 alpha beta gamma delta => Sys2Proof.Machine.execXop23 alpha beta gamma delta s
  | .xop24 alpha beta gamma delta => Sys2Proof.Machine.execXop24 alpha beta gamma delta s
  | .xop25 alpha beta gamma delta => Sys2Proof.Machine.execXop25 alpha beta gamma delta s
  | .xop26 alpha beta gamma delta => Sys2Proof.Machine.execXop26 alpha beta gamma delta s
  | .xop27 alpha beta gamma delta => Sys2Proof.Machine.execXop27 alpha beta gamma delta s
  | .xop28 alpha beta gamma delta => Sys2Proof.Machine.execXop28 alpha beta gamma delta s
  | .xop29 alpha beta gamma delta => Sys2Proof.Machine.execXop29 alpha beta gamma delta s
  | .xop2A alpha beta gamma delta => Sys2Proof.Machine.execXop2A alpha beta gamma delta s
  | .xop2B alpha beta gamma delta => Sys2Proof.Machine.execXop2B alpha beta gamma delta s
  | .xop2C alpha beta gamma delta => Sys2Proof.Machine.execXop2C alpha beta gamma delta s
  | .xop2D alpha beta gamma delta => Sys2Proof.Machine.execXop2D alpha beta gamma delta s
  | .xop2E alpha beta gamma delta => Sys2Proof.Machine.execXop2E alpha beta gamma delta s
  | .xop2F alpha beta gamma delta => Sys2Proof.Machine.execXop2F alpha beta gamma delta s
  | .xop30 alpha beta gamma delta => Sys2Proof.Machine.execXop30 alpha beta gamma delta s
  | .dfc alpha beta gamma delta => Sys2Proof.Machine.execDfc alpha beta gamma delta s
  | .liqb alpha beta gamma delta => Sys2Proof.Machine.execLiqb alpha beta gamma delta s
  | .xop33 alpha beta gamma delta => Sys2Proof.Machine.execXop33 alpha beta gamma delta s
  | .addqb alpha beta gamma delta => Sys2Proof.Machine.execAddqb alpha beta gamma delta s
  | .subqb alpha beta gamma delta => Sys2Proof.Machine.execSubqb alpha beta gamma delta s
  | .j5 alpha beta gamma delta => Sys2Proof.Machine.execJ5 alpha beta gamma delta s
  | .jqb alpha beta gamma delta => Sys2Proof.Machine.execJqb alpha beta gamma delta s
  | .xop38 alpha beta gamma delta => Sys2Proof.Machine.execXop38 alpha beta gamma delta s
  | .xop39 alpha beta gamma delta => Sys2Proof.Machine.execXop39 alpha beta gamma delta s
  | .xop3A alpha beta gamma delta => Sys2Proof.Machine.execXop3A alpha beta gamma delta s
  | .xop3B alpha beta gamma delta => Sys2Proof.Machine.execXop3B alpha beta gamma delta s
  | .xop3C alpha beta gamma delta => Sys2Proof.Machine.execXop3C alpha beta gamma delta s
  | .xop3D alpha beta gamma delta => Sys2Proof.Machine.execXop3D alpha beta gamma delta s
  | .xop3E alpha beta gamma delta => Sys2Proof.Machine.execXop3E alpha beta gamma delta s
  | .xop3F alpha beta gamma delta => Sys2Proof.Machine.execXop3F alpha beta gamma delta s
  | .or => Sys2Proof.Machine.execOr s
  | .and => Sys2Proof.Machine.execAnd s
  | .rx => Sys2Proof.Machine.execRx s
  | .bc => Sys2Proof.Machine.execBc s
  | .add => Sys2Proof.Machine.execAdd s
  | .sub => Sys2Proof.Machine.execSub s
  | .ladd => Sys2Proof.Machine.execLadd s
  | .lsub => Sys2Proof.Machine.execLsub s
  | .dup => Sys2Proof.Machine.execDup s
  | .dis => Sys2Proof.Machine.execDis s
  | .xop4A => Sys2Proof.Machine.execXop4A s
  | .exdis => Sys2Proof.Machine.execExdis s
  | .sfc => Sys2Proof.Machine.execSfc s
  | .sfci => Sys2Proof.Machine.execSfci s
  | .retn => Sys2Proof.Machine.execRetn s
  | .jsd => Sys2Proof.Machine.execJsd s
  | .xop50 => Sys2Proof.Machine.execXop50 s
  | .xop51 => Sys2Proof.Machine.execXop51 s
  | .xop52 => Sys2Proof.Machine.execXop52 s
  | .xop53 => Sys2Proof.Machine.execXop53 s
  | .kfc => Sys2Proof.Machine.execKfc s
  | .xop55 => Sys2Proof.Machine.execXop55 s
  | .j1 => Sys2Proof.Machine.execJ1 s
  | .jsr => Sys2Proof.Machine.execJsr s
  | .xop58 => Sys2Proof.Machine.execXop58 s
  | .xop59 => Sys2Proof.Machine.execXop59 s
  | .xop5A => Sys2Proof.Machine.execXop5A s
  | .xop5B => Sys2Proof.Machine.execXop5B s
  | .xop5C => Sys2Proof.Machine.execXop5C s
  | .xop5D => Sys2Proof.Machine.execXop5D s
  | .xop5E => Sys2Proof.Machine.execXop5E s
  | .xop5F => Sys2Proof.Machine.execXop5F s
  | .lr0 => Sys2Proof.Machine.execLr0 s
  | .lr1 => Sys2Proof.Machine.execLr1 s
  | .lr2 => Sys2Proof.Machine.execLr2 s
  | .lr3 => Sys2Proof.Machine.execLr3 s
  | .lr4 => Sys2Proof.Machine.execLr4 s
  | .lr5 => Sys2Proof.Machine.execLr5 s
  | .lr6 => Sys2Proof.Machine.execLr6 s
  | .lr7 => Sys2Proof.Machine.execLr7 s
  | .lr8 => Sys2Proof.Machine.execLr8 s
  | .lr9 => Sys2Proof.Machine.execLr9 s
  | .lr10 => Sys2Proof.Machine.execLr10 s
  | .lr11 => Sys2Proof.Machine.execLr11 s
  | .lr12 => Sys2Proof.Machine.execLr12 s
  | .lr13 => Sys2Proof.Machine.execLr13 s
  | .lr14 => Sys2Proof.Machine.execLr14 s
  | .lr15 => Sys2Proof.Machine.execLr15 s
  | .sr0 => Sys2Proof.Machine.execSr0 s
  | .sr1 => Sys2Proof.Machine.execSr1 s
  | .sr2 => Sys2Proof.Machine.execSr2 s
  | .sr3 => Sys2Proof.Machine.execSr3 s
  | .sr4 => Sys2Proof.Machine.execSr4 s
  | .sr5 => Sys2Proof.Machine.execSr5 s
  | .sr6 => Sys2Proof.Machine.execSr6 s
  | .sr7 => Sys2Proof.Machine.execSr7 s
  | .sr8 => Sys2Proof.Machine.execSr8 s
  | .sr9 => Sys2Proof.Machine.execSr9 s
  | .sr10 => Sys2Proof.Machine.execSr10 s
  | .sr11 => Sys2Proof.Machine.execSr11 s
  | .sr12 => Sys2Proof.Machine.execSr12 s
  | .sr13 => Sys2Proof.Machine.execSr13 s
  | .sr14 => Sys2Proof.Machine.execSr14 s
  | .sr15 => Sys2Proof.Machine.execSr15 s
  | .qor sel srcB => Sys2Proof.Machine.execQor sel srcB s
  | .qand sel srcB => Sys2Proof.Machine.execQand sel srcB s
  | .qrx sel srcB => Sys2Proof.Machine.execQrx sel srcB s
  | .qbc sel srcB => Sys2Proof.Machine.execQbc sel srcB s
  | .qadd sel srcB => Sys2Proof.Machine.execQadd sel srcB s
  | .qsub sel srcB => Sys2Proof.Machine.execQsub sel srcB s
  | .qladd sel srcB => Sys2Proof.Machine.execQladd sel srcB s
  | .qlsub sel srcB => Sys2Proof.Machine.execQlsub sel srcB s
  | .als alpha => Sys2Proof.Machine.execAls alpha s
  | .al alpha => Sys2Proof.Machine.execAl alpha s
  | .asl alpha => Sys2Proof.Machine.execAsl alpha s
  | .as alpha => Sys2Proof.Machine.execAs alpha s
  | .cst alpha => Sys2Proof.Machine.execCst alpha s
  | .xop8D alpha => Sys2Proof.Machine.execXop8D alpha s
  | .ret alpha => Sys2Proof.Machine.execRet alpha s
  | .xop8F alpha => Sys2Proof.Machine.execXop8F alpha s
  | .lip alpha => Sys2Proof.Machine.execLip alpha s
  | .sip alpha => Sys2Proof.Machine.execSip alpha s
  | .lib alpha => Sys2Proof.Machine.execLib alpha s
  | .xop93 alpha => Sys2Proof.Machine.execXop93 alpha s
  | .addb alpha => Sys2Proof.Machine.execAddb alpha s
  | .subb alpha => Sys2Proof.Machine.execSubb alpha s
  | .j2 alpha => Sys2Proof.Machine.execJ2 alpha s
  | .jb alpha => Sys2Proof.Machine.execJb alpha s
  | .rb alpha => Sys2Proof.Machine.execRb alpha s
  | .wb alpha => Sys2Proof.Machine.execWb alpha s
  | .rsb alpha => Sys2Proof.Machine.execRsb alpha s
  | .wsb alpha => Sys2Proof.Machine.execWsb alpha s
  | .xop9C alpha => Sys2Proof.Machine.execXop9C alpha s
  | .xop9D alpha => Sys2Proof.Machine.execXop9D alpha s
  | .xop9E alpha => Sys2Proof.Machine.execXop9E alpha s
  | .psb alpha => Sys2Proof.Machine.execPsb alpha s
  | .lri0 alpha => Sys2Proof.Machine.execLri0 alpha s
  | .lri1 alpha => Sys2Proof.Machine.execLri1 alpha s
  | .lri2 alpha => Sys2Proof.Machine.execLri2 alpha s
  | .lri3 alpha => Sys2Proof.Machine.execLri3 alpha s
  | .lri4 alpha => Sys2Proof.Machine.execLri4 alpha s
  | .lri5 alpha => Sys2Proof.Machine.execLri5 alpha s
  | .lri6 alpha => Sys2Proof.Machine.execLri6 alpha s
  | .lri7 alpha => Sys2Proof.Machine.execLri7 alpha s
  | .lri8 alpha => Sys2Proof.Machine.execLri8 alpha s
  | .lri9 alpha => Sys2Proof.Machine.execLri9 alpha s
  | .lri10 alpha => Sys2Proof.Machine.execLri10 alpha s
  | .lri11 alpha => Sys2Proof.Machine.execLri11 alpha s
  | .lri12 alpha => Sys2Proof.Machine.execLri12 alpha s
  | .lri13 alpha => Sys2Proof.Machine.execLri13 alpha s
  | .lri14 alpha => Sys2Proof.Machine.execLri14 alpha s
  | .lri15 alpha => Sys2Proof.Machine.execLri15 alpha s
  | .sri0 alpha => Sys2Proof.Machine.execSri0 alpha s
  | .sri1 alpha => Sys2Proof.Machine.execSri1 alpha s
  | .sri2 alpha => Sys2Proof.Machine.execSri2 alpha s
  | .sri3 alpha => Sys2Proof.Machine.execSri3 alpha s
  | .sri4 alpha => Sys2Proof.Machine.execSri4 alpha s
  | .sri5 alpha => Sys2Proof.Machine.execSri5 alpha s
  | .sri6 alpha => Sys2Proof.Machine.execSri6 alpha s
  | .sri7 alpha => Sys2Proof.Machine.execSri7 alpha s
  | .sri8 alpha => Sys2Proof.Machine.execSri8 alpha s
  | .sri9 alpha => Sys2Proof.Machine.execSri9 alpha s
  | .sri10 alpha => Sys2Proof.Machine.execSri10 alpha s
  | .sri11 alpha => Sys2Proof.Machine.execSri11 alpha s
  | .sri12 alpha => Sys2Proof.Machine.execSri12 alpha s
  | .sri13 alpha => Sys2Proof.Machine.execSri13 alpha s
  | .sri14 alpha => Sys2Proof.Machine.execSri14 alpha s
  | .sri15 alpha => Sys2Proof.Machine.execSri15 alpha s
  | .ror srcA srcB dst => Sys2Proof.Machine.execRor srcA srcB dst s
  | .rand srcA srcB dst => Sys2Proof.Machine.execRand srcA srcB dst s
  | .rrx srcA srcB dst => Sys2Proof.Machine.execRrx srcA srcB dst s
  | .rbc srcA srcB dst => Sys2Proof.Machine.execRbc srcA srcB dst s
  | .radd srcA srcB dst => Sys2Proof.Machine.execRadd srcA srcB dst s
  | .rsub srcA srcB dst => Sys2Proof.Machine.execRsub srcA srcB dst s
  | .rladd srcA srcB dst => Sys2Proof.Machine.execRladd srcA srcB dst s
  | .rlsub srcA srcB dst => Sys2Proof.Machine.execRlsub srcA srcB dst s
  | .rxor srcA srcB dst => Sys2Proof.Machine.execRxor srcA srcB dst s
  | .reservedC9 alpha beta => Sys2Proof.Machine.execReservedC9 alpha beta s
  | .rfu srcA srcB dst => Sys2Proof.Machine.execRfu srcA srcB dst s
  | .reservedCB alpha beta => Sys2Proof.Machine.execReservedCB alpha beta s
  | .rvadd srcA srcB dst => Sys2Proof.Machine.execRvadd srcA srcB dst s
  | .rvsub srcA srcB dst => Sys2Proof.Machine.execRvsub srcA srcB dst s
  | .ruadd srcA srcB dst => Sys2Proof.Machine.execRuadd srcA srcB dst s
  | .rusub srcA srcB dst => Sys2Proof.Machine.execRusub srcA srcB dst s
  | .lgf alpha beta => Sys2Proof.Machine.execLgf alpha beta s
  | .lfc alpha beta => Sys2Proof.Machine.execLfc alpha beta s
  | .lidb alpha beta => Sys2Proof.Machine.execLidb alpha beta s
  | .fsdb alpha beta => Sys2Proof.Machine.execFsdb alpha beta s
  | .adddb alpha beta => Sys2Proof.Machine.execAdddb alpha beta s
  | .subdb alpha beta => Sys2Proof.Machine.execSubdb alpha beta s
  | .j3 alpha beta => Sys2Proof.Machine.execJ3 alpha beta s
  | .jdb alpha beta => Sys2Proof.Machine.execJdb alpha beta s
  | .rai alpha betaL betaR => Sys2Proof.Machine.execRai alpha betaL betaR s
  | .wai alpha betaL betaR => Sys2Proof.Machine.execWai alpha betaL betaR s
  | .rri alpha betaL betaR => Sys2Proof.Machine.execRri alpha betaL betaR s
  | .wri alpha betaL betaR => Sys2Proof.Machine.execWri alpha betaL betaR s
  | .ioda alpha beta => Sys2Proof.Machine.execIoda alpha beta s
  | .iod alpha beta => Sys2Proof.Machine.execIod alpha beta s
  | .ion alpha beta => Sys2Proof.Machine.execIon alpha beta s
  | .reservedDF alpha beta => Sys2Proof.Machine.execReservedDF alpha beta s
  | .reservedE0 alpha beta => Sys2Proof.Machine.execReservedE0 alpha beta s
  | .rjeb srcS srcB beta => Sys2Proof.Machine.execRjeb srcS srcB beta s
  | .rjlb srcS srcB beta => Sys2Proof.Machine.execRjlb srcS srcB beta s
  | .rjleb srcS srcB beta => Sys2Proof.Machine.execRjleb srcS srcB beta s
  | .reservedE4 alpha beta => Sys2Proof.Machine.execReservedE4 alpha beta s
  | .rjneb srcS srcB beta => Sys2Proof.Machine.execRjneb srcS srcB beta s
  | .rjgeb srcS srcB beta => Sys2Proof.Machine.execRjgeb srcS srcB beta s
  | .rjgb srcS srcB beta => Sys2Proof.Machine.execRjgb srcS srcB beta s
  | .reservedE8 alpha beta => Sys2Proof.Machine.execReservedE8 alpha beta s
  | .rjnebj srcS srcB beta => Sys2Proof.Machine.execRjnebj srcS srcB beta s
  | .rjgebj srcS srcB beta => Sys2Proof.Machine.execRjgebj srcS srcB beta s
  | .rjgbj srcS srcB beta => Sys2Proof.Machine.execRjgbj srcS srcB beta s
  | .reservedEC alpha beta => Sys2Proof.Machine.execReservedEC alpha beta s
  | .rjebj srcS srcB beta => Sys2Proof.Machine.execRjebj srcS srcB beta s
  | .rjlbj srcS srcB beta => Sys2Proof.Machine.execRjlbj srcS srcB beta s
  | .rjlebj srcS srcB beta => Sys2Proof.Machine.execRjlebj srcS srcB beta s
  | .jebb alpha beta => Sys2Proof.Machine.execJebb alpha beta s
  | .jnebb alpha beta => Sys2Proof.Machine.execJnebb alpha beta s
  | .jebbj alpha beta => Sys2Proof.Machine.execJebbj alpha beta s
  | .jnebbj alpha beta => Sys2Proof.Machine.execJnebbj alpha beta s
  | .xopF4 alpha beta => Sys2Proof.Machine.execXopF4 alpha beta s
  | .xopF5 alpha beta => Sys2Proof.Machine.execXopF5 alpha beta s
  | .xopF6 alpha beta => Sys2Proof.Machine.execXopF6 alpha beta s
  | .xopF7 alpha beta => Sys2Proof.Machine.execXopF7 alpha beta s
  | .shl alpha beta => Sys2Proof.Machine.execShl alpha beta s
  | .shr alpha beta => Sys2Proof.Machine.execShr alpha beta s
  | .shdl alpha beta => Sys2Proof.Machine.execShdl alpha beta s
  | .shdr alpha beta => Sys2Proof.Machine.execShdr alpha beta s
  | .xopFC alpha beta => Sys2Proof.Machine.execXopFC alpha beta s
  | .xopFD alpha beta => Sys2Proof.Machine.execXopFD alpha beta s
  | .xopFE alpha beta => Sys2Proof.Machine.execXopFE alpha beta s
  | .xopFF alpha beta => Sys2Proof.Machine.execXopFF alpha beta s

end Sys2Proof.Machine
end

