-- ==== Sys2Proof/Decode.lean ====
section
/-! DEFINITION. From bytes to instructions and back (R70 to R93): the length of an instruction, the opcode
map row by row, the operand specifiers of forms RR, QR and RJB, the decoder (total, rejecting by name) and
the encoder. -/
namespace Sys2Proof

/-- The length in bytes of an instruction, by the top three bits of its opcode byte alone (R71). -/
def lengthOf (op : Byte) : Nat :=
  match (op.extractLsb' 5 3).toNat with
  | 0 => 1
  | 1 => 5
  | 2 => 1
  | 3 => 1
  | 4 => 2
  | 5 => 2
  | _ => 3

/-! ## Operand specifiers
The spec leaves the bits of the specifiers open (R81 to R83, D22). The functions of this section are ONE
configuration of `DecodeRR`, `DecodeQR` and `DecodeRJB`, the candidate GK7, its fields placed most
significant first in the order GK7 lists them (PRESUMED, unsafe, log 10), and then the decoders themselves,
which a launch parameter chooses (`Specifiers`, D22). No meaning depends on them: the meanings are over the
abstract specifiers. -/

/-- A source by its option bit and 4-bit field (GK7): option 0 names `Locals`, or `AuxRegs` when `aux` is
set; option 1 names a constant (0 to 11) or one of the four stack kinds (12 to 15). PRESUMED, log 10. -/
def decodeSrc (aux opt : Bool) (n : Nibble) : Src :=
  if opt then
    if h : n.toNat < 12 then .const ⟨n.toNat, h⟩
    else if n = 12 then .top
    else if n = 13 then .below
    else if n = 14 then .topPop
    else .belowPop
  else if aux then .aux n
  else .locals n

/-- A destination by its option bit and 4-bit field (GK7): as a source, but that 14 is `[S+1]+` and 15 is
no legal destination (R89). PRESUMED, log 10. -/
def decodeDst (aux opt : Bool) (n : Nibble) : Option Dst :=
  if opt then
    if h : n.toNat < 12 then some (.const ⟨n.toNat, h⟩)
    else if n = 12 then some .top
    else if n = 13 then some .below
    else if n = 14 then some .push
    else none
  else if aux then some (.aux n)
  else some (.locals n)

/-- GK7 for `DecodeRR` (R81): Alpha is c in bits 7:4, then aOpt, bOpt, cOpt, aux; Beta is a, then b. PRESUMED, log 10. -/
def gk7RR (alpha beta : Byte) : Option (Src × Src × Dst) :=
  match decodeDst (alpha.getLsbD 0) (alpha.getLsbD 1) (alpha.extractLsb' 4 4) with
  | some rc =>
    some (decodeSrc (alpha.getLsbD 0) (alpha.getLsbD 3) (beta.extractLsb' 4 4),
      decodeSrc (alpha.getLsbD 0) (alpha.getLsbD 2) (beta.extractLsb' 0 4), rc)
  | none => none

/-- The pair number of form QR (R221). -/
def decodeQrSel (n : BitVec 2) : QrSel :=
  if n = 0 then .inPlace else if n = 1 then .pushTop else if n = 2 then .pushConst0 else .pushConst1

/-- The choice of Rs of form RJB, numbered in the order R260 lists them. PRESUMED, log 10. -/
def decodeRjbSrc (n : BitVec 2) : RjbSrc :=
  if n = 0 then .top else if n = 1 then .topPop else if n = 2 then .const0 else .const1

/-- GK7 for `DecodeQR` (R82): Alpha is the pair number, bOpt, aux, then b. PRESUMED, log 10. -/
def gk7QR (alpha : Byte) : Option (QrSel × Src) :=
  some (decodeQrSel (alpha.extractLsb' 6 2),
    decodeSrc (alpha.getLsbD 4) (alpha.getLsbD 5) (alpha.extractLsb' 0 4))

/-- GK7 for `DecodeRJB` (R83): Alpha is the choice of Rs, bOpt, aux, then b. PRESUMED, log 10. -/
def gk7RJB (alpha : Byte) : Option (RjbSrc × Src) :=
  some (decodeRjbSrc (alpha.extractLsb' 6 2),
    decodeSrc (alpha.getLsbD 4) (alpha.getLsbD 5) (alpha.extractLsb' 0 4))

/-- What a table gives for the operand bytes: its first entry for them, nothing where it has none. -/
def lookupOperands {α β : Type} [DecidableEq α] (entries : List (α × β)) (bytes : α) : Option β :=
  match entries with
  | [] => none
  | (b, x) :: rest => if bytes = b then some x else lookupOperands rest bytes

/-- `DecodeRR` (R81): the launch's decoder; operands that mix Locals and AuxRegs are nothing (R216). -/
def decodeRR (c : Specifiers) (alpha beta : Byte) : Option (Src × Src × Dst) :=
  match (match c.rr with
    | .gk7 => gk7RR alpha beta
    | .table entries => lookupOperands entries (alpha, beta)) with
  | some (ra, rb, rc) => if separateKinds ra rb rc then some (ra, rb, rc) else none
  | none => none

/-- `DecodeQR` (R82): the launch's decoder. -/
def decodeQR (c : Specifiers) (alpha : Byte) : Option (QrSel × Src) :=
  match c.qr with
  | .gk7 => gk7QR alpha
  | .table entries => lookupOperands entries alpha

/-- `DecodeRJB` (R83, R260): the launch's decoder. -/
def decodeRJB (c : Specifiers) (alpha : Byte) : Option (RjbSrc × Src) :=
  match c.rjb with
  | .gk7 => gk7RJB alpha
  | .table entries => lookupOperands entries alpha

/-! ## The opcode map (R85) -/

/-- One cell of the map: what the launch's specifier decoders and the operand bytes Alpha, Beta, Gamma, Delta
make of the opcode, or nothing where the bytes name no legal operands (R89). -/
abbrev Cell := Specifiers → Byte → Byte → Byte → Byte → Option Instr

/-- A one-byte cell (R73, R78). -/
def oi (i : Instr) : Cell := fun _ _ _ _ _ => some i

/-- A two-byte cell with Alpha (R74, R79). -/
def ob (f : Byte → Instr) : Cell := fun _ a _ _ _ => some (f a)

/-- A three-byte cell with Alpha and Beta (R75, R77). -/
def odb (f : Byte → Byte → Instr) : Cell := fun _ a b _ _ => some (f a b)

/-- A five-byte cell (R76). -/
def oqb (f : Byte → Byte → Byte → Byte → Instr) : Cell := fun _ a b g d => some (f a b g d)

/-- A form LRRB cell (R80): Beta is BetaL in bits 7:4 and BetaR in bits 3:0 (R72). -/
def lrrb (f : Byte → Nibble → Nibble → Instr) : Cell :=
  fun _ a b _ _ => some (f a (b.extractLsb' 4 4) (b.extractLsb' 0 4))

/-- A form RR cell (R81). -/
def rr (f : Src → Src → Dst → Instr) : Cell :=
  fun c a b _ _ => match decodeRR c a b with
    | some (ra, rb, rc) => some (f ra rb rc)
    | none => none

/-- A form QR cell (R82). -/
def qr (f : QrSel → Src → Instr) : Cell :=
  fun c a _ _ _ => match decodeQR c a with
    | some (sel, rb) => some (f sel rb)
    | none => none

/-- A form RJB cell (R83). -/
def rjb (f : RjbSrc → Src → Byte → Instr) : Cell :=
  fun c a b _ _ => match decodeRJB c a with
    | some (rs, rb) => some (f rs rb b)
    | none => none

/-- Map row 00-, opcodes 0x00 to 0x07, form OI. -/
def mapRow00 : List Cell :=
  [ oi .xop00, oi .xop01, oi .xop02, oi .xop03, oi .xop04, oi .xop05, oi .xop06, oi .xop07 ]

/-- Map row 01-, opcodes 0x08 to 0x0F, form OI. -/
def mapRow01 : List Cell :=
  [ oi .xop08, oi .xop09, oi .xop0A, oi .xop0B, oi .xop0C, oi .xop0D, oi .xop0E, oi .xop0F ]

/-- Map row 02-, opcodes 0x10 to 0x17, form OI. -/
def mapRow02 : List Cell :=
  [ oi .lc0, oi .lc1, oi .lc2, oi .lc3, oi .lc4, oi .lc5, oi .lc6, oi .lc7 ]

/-- Map row 03-, opcodes 0x18 to 0x1F, form OI. -/
def mapRow03 : List Cell :=
  [ oi .lc8, oi .lc9, oi .lc10, oi .lc11, oi .xop1C, oi .xop1D, oi .xop1E, oi .xop1F ]

/-- Map row 04-, opcodes 0x20 to 0x27, form OQB. -/
def mapRow04 : List Cell :=
  [ oqb .xop20, oqb .xop21, oqb .xop22, oqb .xop23,
    oqb .xop24, oqb .xop25, oqb .xop26, oqb .xop27 ]

/-- Map row 05-, opcodes 0x28 to 0x2F, form OQB. -/
def mapRow05 : List Cell :=
  [ oqb .xop28, oqb .xop29, oqb .xop2A, oqb .xop2B,
    oqb .xop2C, oqb .xop2D, oqb .xop2E, oqb .xop2F ]

/-- Map row 06-, opcodes 0x30 to 0x37, form OQB. -/
def mapRow06 : List Cell :=
  [ oqb .xop30, oqb .dfc, oqb .liqb, oqb .xop33, oqb .addqb, oqb .subqb, oqb .j5, oqb .jqb ]

/-- Map row 07-, opcodes 0x38 to 0x3F, form OQB. -/
def mapRow07 : List Cell :=
  [ oqb .xop38, oqb .xop39, oqb .xop3A, oqb .xop3B,
    oqb .xop3C, oqb .xop3D, oqb .xop3E, oqb .xop3F ]

/-- Map row 10-, opcodes 0x40 to 0x47, form OI. -/
def mapRow10 : List Cell :=
  [ oi .or, oi .and, oi .rx, oi .bc, oi .add, oi .sub, oi .ladd, oi .lsub ]

/-- Map row 11-, opcodes 0x48 to 0x4F, form OI. -/
def mapRow11 : List Cell :=
  [ oi .dup, oi .dis, oi .xop4A, oi .exdis, oi .sfc, oi .sfci, oi .retn, oi .jsd ]

/-- Map row 12-, opcodes 0x50 to 0x57, form OI. -/
def mapRow12 : List Cell :=
  [ oi .xop50, oi .xop51, oi .xop52, oi .xop53, oi .kfc, oi .xop55, oi .j1, oi .jsr ]

/-- Map row 13-, opcodes 0x58 to 0x5F, form OI. -/
def mapRow13 : List Cell :=
  [ oi .xop58, oi .xop59, oi .xop5A, oi .xop5B, oi .xop5C, oi .xop5D, oi .xop5E, oi .xop5F ]

/-- Map row 14-, opcodes 0x60 to 0x67, form LR. -/
def mapRow14 : List Cell :=
  [ oi .lr0, oi .lr1, oi .lr2, oi .lr3, oi .lr4, oi .lr5, oi .lr6, oi .lr7 ]

/-- Map row 15-, opcodes 0x68 to 0x6F, form LR. -/
def mapRow15 : List Cell :=
  [ oi .lr8, oi .lr9, oi .lr10, oi .lr11, oi .lr12, oi .lr13, oi .lr14, oi .lr15 ]

/-- Map row 16-, opcodes 0x70 to 0x77, form LR. -/
def mapRow16 : List Cell :=
  [ oi .sr0, oi .sr1, oi .sr2, oi .sr3, oi .sr4, oi .sr5, oi .sr6, oi .sr7 ]

/-- Map row 17-, opcodes 0x78 to 0x7F, form LR. -/
def mapRow17 : List Cell :=
  [ oi .sr8, oi .sr9, oi .sr10, oi .sr11, oi .sr12, oi .sr13, oi .sr14, oi .sr15 ]

/-- Map row 20-, opcodes 0x80 to 0x87, form QR. -/
def mapRow20 : List Cell :=
  [ qr .qor, qr .qand, qr .qrx, qr .qbc, qr .qadd, qr .qsub, qr .qladd, qr .qlsub ]

/-- Map row 21-, opcodes 0x88 to 0x8F, form OB. -/
def mapRow21 : List Cell :=
  [ ob .als, ob .al, ob .asl, ob .as, ob .cst, ob .xop8D, ob .ret, ob .xop8F ]

/-- Map row 22-, opcodes 0x90 to 0x97, form OB. -/
def mapRow22 : List Cell :=
  [ ob .lip, ob .sip, ob .lib, ob .xop93, ob .addb, ob .subb, ob .j2, ob .jb ]

/-- Map row 23-, opcodes 0x98 to 0x9F, form OB. -/
def mapRow23 : List Cell :=
  [ ob .rb, ob .wb, ob .rsb, ob .wsb, ob .xop9C, ob .xop9D, ob .xop9E, ob .psb ]

/-- Map row 24-, opcodes 0xA0 to 0xA7, form LRB. -/
def mapRow24 : List Cell :=
  [ ob .lri0, ob .lri1, ob .lri2, ob .lri3, ob .lri4, ob .lri5, ob .lri6, ob .lri7 ]

/-- Map row 25-, opcodes 0xA8 to 0xAF, form LRB. -/
def mapRow25 : List Cell :=
  [ ob .lri8, ob .lri9, ob .lri10, ob .lri11, ob .lri12, ob .lri13, ob .lri14, ob .lri15 ]

/-- Map row 26-, opcodes 0xB0 to 0xB7, form LRB. -/
def mapRow26 : List Cell :=
  [ ob .sri0, ob .sri1, ob .sri2, ob .sri3, ob .sri4, ob .sri5, ob .sri6, ob .sri7 ]

/-- Map row 27-, opcodes 0xB8 to 0xBF, form LRB. -/
def mapRow27 : List Cell :=
  [ ob .sri8, ob .sri9, ob .sri10, ob .sri11, ob .sri12, ob .sri13, ob .sri14, ob .sri15 ]

/-- Map row 30-, opcodes 0xC0 to 0xC7, form RR. -/
def mapRow30 : List Cell :=
  [ rr .ror, rr .rand, rr .rrx, rr .rbc, rr .radd, rr .rsub, rr .rladd, rr .rlsub ]

/-- Map row 31-, opcodes 0xC8 to 0xCF, form RR. -/
def mapRow31 : List Cell :=
  [ rr .rxor, odb .reservedC9, rr .rfu, odb .reservedCB,
    rr .rvadd, rr .rvsub, rr .ruadd, rr .rusub ]

/-- Map row 32-, opcodes 0xD0 to 0xD7, form ODB. -/
def mapRow32 : List Cell :=
  [ odb .lgf, odb .lfc, odb .lidb, odb .fsdb, odb .adddb, odb .subdb, odb .j3, odb .jdb ]

/-- Map row 33-, opcodes 0xD8 to 0xDF, form LRRB and ODB. -/
def mapRow33 : List Cell :=
  [ lrrb .rai, lrrb .wai, lrrb .rri, lrrb .wri,
    odb .ioda, odb .iod, odb .ion, odb .reservedDF ]

/-- Map row 34-, opcodes 0xE0 to 0xE7, form RJB. -/
def mapRow34 : List Cell :=
  [ odb .reservedE0, rjb .rjeb, rjb .rjlb, rjb .rjleb,
    odb .reservedE4, rjb .rjneb, rjb .rjgeb, rjb .rjgb ]

/-- Map row 35-, opcodes 0xE8 to 0xEF, form RJB. -/
def mapRow35 : List Cell :=
  [ odb .reservedE8, rjb .rjnebj, rjb .rjgebj, rjb .rjgbj,
    odb .reservedEC, rjb .rjebj, rjb .rjlbj, rjb .rjlebj ]

/-- Map row 36-, opcodes 0xF0 to 0xF7, form JBB. -/
def mapRow36 : List Cell :=
  [ odb .jebb, odb .jnebb, odb .jebbj, odb .jnebbj,
    odb .xopF4, odb .xopF5, odb .xopF6, odb .xopF7 ]

/-- Map row 37-, opcodes 0xF8 to 0xFF, form ODB. -/
def mapRow37 : List Cell :=
  [ odb .shl, odb .shr, odb .shdl, odb .shdr, odb .xopFC, odb .xopFD, odb .xopFE, odb .xopFF ]

/-- The opcode map, 256 cells in the order of the opcode byte (R85). -/
def opcodeMap : List Cell :=
    mapRow00 ++ mapRow01 ++ mapRow02 ++ mapRow03 ++
    mapRow04 ++ mapRow05 ++ mapRow06 ++ mapRow07 ++
    mapRow10 ++ mapRow11 ++ mapRow12 ++ mapRow13 ++
    mapRow14 ++ mapRow15 ++ mapRow16 ++ mapRow17 ++
    mapRow20 ++ mapRow21 ++ mapRow22 ++ mapRow23 ++
    mapRow24 ++ mapRow25 ++ mapRow26 ++ mapRow27 ++
    mapRow30 ++ mapRow31 ++ mapRow32 ++ mapRow33 ++
    mapRow34 ++ mapRow35 ++ mapRow36 ++ mapRow37

/-- The cell the opcode byte selects (R85). The default is never taken: the map has 256 cells. -/
def cellOf (op : Byte) : Cell := opcodeMap.getD op.toNat (fun _ _ _ _ _ => none)

/-- What a decoder answers (R93): an instruction (defined, xop or reserved, each a constructor of `Instr`),
`illegalOperands` for a defined opcode whose operand bytes name no legal operands (R89), or `truncated` where
fewer bytes are given than the opcode's length. -/
inductive Decoded where
  | instr (i : Instr)
  | illegalOperands (op : Byte)
  | truncated
deriving DecidableEq, Repr

/-- The decoder (R93), with the launch's specifier decoders: the opcode byte, the length by R71, then the operand
bytes. Bytes after the instruction's length are not looked at. -/
def decode (c : Specifiers) (bytes : List Byte) : Decoded :=
  match bytes with
  | [] => .truncated
  | op :: rest =>
    if rest.length + 1 < lengthOf op then .truncated
    else match cellOf op c (rest.getD 0 0) (rest.getD 1 0) (rest.getD 2 0) (rest.getD 3 0) with
      | some i => .instr i
      | none => .illegalOperands op

/-! ## The encoder
It writes the specifiers of forms RR, QR and RJB in the layout GK7 (log 10). -/

/-- The option bit and the 4-bit field of a source (GK7). PRESUMED, log 10. -/
def encodeSrc (x : Src) : Bool × Nibble :=
  match x with
  | .locals n => (false, n)
  | .aux n => (false, n)
  | .const n => (true, BitVec.ofNat 4 n.val)
  | .top => (true, 12)
  | .below => (true, 13)
  | .topPop => (true, 14)
  | .belowPop => (true, 15)

/-- The option bit and the 4-bit field of a destination (GK7). PRESUMED, log 10. -/
def encodeDst (x : Dst) : Bool × Nibble :=
  match x with
  | .locals n => (false, n)
  | .aux n => (false, n)
  | .const n => (true, BitVec.ofNat 4 n.val)
  | .top => (true, 12)
  | .below => (true, 13)
  | .push => (true, 14)

/-- The bytes Alpha and Beta of a form RR instruction (R81, GK7). PRESUMED, log 10. -/
def encodeRR (ra rb : Src) (rc : Dst) : List Byte :=
  [ (encodeDst rc).2 ++ BitVec.ofBool (encodeSrc ra).1 ++ BitVec.ofBool (encodeSrc rb).1
      ++ BitVec.ofBool (encodeDst rc).1 ++ BitVec.ofBool (ra.isAux || rb.isAux || rc.isAux),
    (encodeSrc ra).2 ++ (encodeSrc rb).2 ]

/-- The two bits of a pair number (R221). -/
def encodeQrSel (sel : QrSel) : BitVec 2 :=
  match sel with
  | .inPlace => 0
  | .pushTop => 1
  | .pushConst0 => 2
  | .pushConst1 => 3

/-- The two bits of a choice of Rs (R260). PRESUMED, log 10. -/
def encodeRjbSrc (rs : RjbSrc) : BitVec 2 :=
  match rs with
  | .top => 0
  | .topPop => 1
  | .const0 => 2
  | .const1 => 3

/-- The byte Alpha of a form QR instruction (R82, GK7). PRESUMED, log 10. -/
def encodeQR (sel : QrSel) (rb : Src) : Byte :=
  encodeQrSel sel ++ BitVec.ofBool (encodeSrc rb).1 ++ BitVec.ofBool rb.isAux ++ (encodeSrc rb).2

/-- The byte Alpha of a form RJB instruction (R83, GK7). PRESUMED, log 10. -/
def encodeRJB (rs : RjbSrc) (rb : Src) : Byte :=
  encodeRjbSrc rs ++ BitVec.ofBool (encodeSrc rb).1 ++ BitVec.ofBool rb.isAux ++ (encodeSrc rb).2

/-- The bytes of an instruction, opcode first, from the encodings of R73 to R85. -/
def encode (i : Instr) : List Byte :=
  match i with
  | .xop00 => [0x00]
  | .xop01 => [0x01]
  | .xop02 => [0x02]
  | .xop03 => [0x03]
  | .xop04 => [0x04]
  | .xop05 => [0x05]
  | .xop06 => [0x06]
  | .xop07 => [0x07]
  | .xop08 => [0x08]
  | .xop09 => [0x09]
  | .xop0A => [0x0A]
  | .xop0B => [0x0B]
  | .xop0C => [0x0C]
  | .xop0D => [0x0D]
  | .xop0E => [0x0E]
  | .xop0F => [0x0F]
  | .lc0 => [0x10]
  | .lc1 => [0x11]
  | .lc2 => [0x12]
  | .lc3 => [0x13]
  | .lc4 => [0x14]
  | .lc5 => [0x15]
  | .lc6 => [0x16]
  | .lc7 => [0x17]
  | .lc8 => [0x18]
  | .lc9 => [0x19]
  | .lc10 => [0x1A]
  | .lc11 => [0x1B]
  | .xop1C => [0x1C]
  | .xop1D => [0x1D]
  | .xop1E => [0x1E]
  | .xop1F => [0x1F]
  | .xop20 alpha beta gamma delta => [0x20, alpha, beta, gamma, delta]
  | .xop21 alpha beta gamma delta => [0x21, alpha, beta, gamma, delta]
  | .xop22 alpha beta gamma delta => [0x22, alpha, beta, gamma, delta]
  | .xop23 alpha beta gamma delta => [0x23, alpha, beta, gamma, delta]
  | .xop24 alpha beta gamma delta => [0x24, alpha, beta, gamma, delta]
  | .xop25 alpha beta gamma delta => [0x25, alpha, beta, gamma, delta]
  | .xop26 alpha beta gamma delta => [0x26, alpha, beta, gamma, delta]
  | .xop27 alpha beta gamma delta => [0x27, alpha, beta, gamma, delta]
  | .xop28 alpha beta gamma delta => [0x28, alpha, beta, gamma, delta]
  | .xop29 alpha beta gamma delta => [0x29, alpha, beta, gamma, delta]
  | .xop2A alpha beta gamma delta => [0x2A, alpha, beta, gamma, delta]
  | .xop2B alpha beta gamma delta => [0x2B, alpha, beta, gamma, delta]
  | .xop2C alpha beta gamma delta => [0x2C, alpha, beta, gamma, delta]
  | .xop2D alpha beta gamma delta => [0x2D, alpha, beta, gamma, delta]
  | .xop2E alpha beta gamma delta => [0x2E, alpha, beta, gamma, delta]
  | .xop2F alpha beta gamma delta => [0x2F, alpha, beta, gamma, delta]
  | .xop30 alpha beta gamma delta => [0x30, alpha, beta, gamma, delta]
  | .dfc alpha beta gamma delta => [0x31, alpha, beta, gamma, delta]
  | .liqb alpha beta gamma delta => [0x32, alpha, beta, gamma, delta]
  | .xop33 alpha beta gamma delta => [0x33, alpha, beta, gamma, delta]
  | .addqb alpha beta gamma delta => [0x34, alpha, beta, gamma, delta]
  | .subqb alpha beta gamma delta => [0x35, alpha, beta, gamma, delta]
  | .j5 alpha beta gamma delta => [0x36, alpha, beta, gamma, delta]
  | .jqb alpha beta gamma delta => [0x37, alpha, beta, gamma, delta]
  | .xop38 alpha beta gamma delta => [0x38, alpha, beta, gamma, delta]
  | .xop39 alpha beta gamma delta => [0x39, alpha, beta, gamma, delta]
  | .xop3A alpha beta gamma delta => [0x3A, alpha, beta, gamma, delta]
  | .xop3B alpha beta gamma delta => [0x3B, alpha, beta, gamma, delta]
  | .xop3C alpha beta gamma delta => [0x3C, alpha, beta, gamma, delta]
  | .xop3D alpha beta gamma delta => [0x3D, alpha, beta, gamma, delta]
  | .xop3E alpha beta gamma delta => [0x3E, alpha, beta, gamma, delta]
  | .xop3F alpha beta gamma delta => [0x3F, alpha, beta, gamma, delta]
  | .or => [0x40]
  | .and => [0x41]
  | .rx => [0x42]
  | .bc => [0x43]
  | .add => [0x44]
  | .sub => [0x45]
  | .ladd => [0x46]
  | .lsub => [0x47]
  | .dup => [0x48]
  | .dis => [0x49]
  | .xop4A => [0x4A]
  | .exdis => [0x4B]
  | .sfc => [0x4C]
  | .sfci => [0x4D]
  | .retn => [0x4E]
  | .jsd => [0x4F]
  | .xop50 => [0x50]
  | .xop51 => [0x51]
  | .xop52 => [0x52]
  | .xop53 => [0x53]
  | .kfc => [0x54]
  | .xop55 => [0x55]
  | .j1 => [0x56]
  | .jsr => [0x57]
  | .xop58 => [0x58]
  | .xop59 => [0x59]
  | .xop5A => [0x5A]
  | .xop5B => [0x5B]
  | .xop5C => [0x5C]
  | .xop5D => [0x5D]
  | .xop5E => [0x5E]
  | .xop5F => [0x5F]
  | .lr0 => [0x60]
  | .lr1 => [0x61]
  | .lr2 => [0x62]
  | .lr3 => [0x63]
  | .lr4 => [0x64]
  | .lr5 => [0x65]
  | .lr6 => [0x66]
  | .lr7 => [0x67]
  | .lr8 => [0x68]
  | .lr9 => [0x69]
  | .lr10 => [0x6A]
  | .lr11 => [0x6B]
  | .lr12 => [0x6C]
  | .lr13 => [0x6D]
  | .lr14 => [0x6E]
  | .lr15 => [0x6F]
  | .sr0 => [0x70]
  | .sr1 => [0x71]
  | .sr2 => [0x72]
  | .sr3 => [0x73]
  | .sr4 => [0x74]
  | .sr5 => [0x75]
  | .sr6 => [0x76]
  | .sr7 => [0x77]
  | .sr8 => [0x78]
  | .sr9 => [0x79]
  | .sr10 => [0x7A]
  | .sr11 => [0x7B]
  | .sr12 => [0x7C]
  | .sr13 => [0x7D]
  | .sr14 => [0x7E]
  | .sr15 => [0x7F]
  | .qor sel srcB => [0x80, encodeQR sel srcB]
  | .qand sel srcB => [0x81, encodeQR sel srcB]
  | .qrx sel srcB => [0x82, encodeQR sel srcB]
  | .qbc sel srcB => [0x83, encodeQR sel srcB]
  | .qadd sel srcB => [0x84, encodeQR sel srcB]
  | .qsub sel srcB => [0x85, encodeQR sel srcB]
  | .qladd sel srcB => [0x86, encodeQR sel srcB]
  | .qlsub sel srcB => [0x87, encodeQR sel srcB]
  | .als alpha => [0x88, alpha]
  | .al alpha => [0x89, alpha]
  | .asl alpha => [0x8A, alpha]
  | .as alpha => [0x8B, alpha]
  | .cst alpha => [0x8C, alpha]
  | .xop8D alpha => [0x8D, alpha]
  | .ret alpha => [0x8E, alpha]
  | .xop8F alpha => [0x8F, alpha]
  | .lip alpha => [0x90, alpha]
  | .sip alpha => [0x91, alpha]
  | .lib alpha => [0x92, alpha]
  | .xop93 alpha => [0x93, alpha]
  | .addb alpha => [0x94, alpha]
  | .subb alpha => [0x95, alpha]
  | .j2 alpha => [0x96, alpha]
  | .jb alpha => [0x97, alpha]
  | .rb alpha => [0x98, alpha]
  | .wb alpha => [0x99, alpha]
  | .rsb alpha => [0x9A, alpha]
  | .wsb alpha => [0x9B, alpha]
  | .xop9C alpha => [0x9C, alpha]
  | .xop9D alpha => [0x9D, alpha]
  | .xop9E alpha => [0x9E, alpha]
  | .psb alpha => [0x9F, alpha]
  | .lri0 alpha => [0xA0, alpha]
  | .lri1 alpha => [0xA1, alpha]
  | .lri2 alpha => [0xA2, alpha]
  | .lri3 alpha => [0xA3, alpha]
  | .lri4 alpha => [0xA4, alpha]
  | .lri5 alpha => [0xA5, alpha]
  | .lri6 alpha => [0xA6, alpha]
  | .lri7 alpha => [0xA7, alpha]
  | .lri8 alpha => [0xA8, alpha]
  | .lri9 alpha => [0xA9, alpha]
  | .lri10 alpha => [0xAA, alpha]
  | .lri11 alpha => [0xAB, alpha]
  | .lri12 alpha => [0xAC, alpha]
  | .lri13 alpha => [0xAD, alpha]
  | .lri14 alpha => [0xAE, alpha]
  | .lri15 alpha => [0xAF, alpha]
  | .sri0 alpha => [0xB0, alpha]
  | .sri1 alpha => [0xB1, alpha]
  | .sri2 alpha => [0xB2, alpha]
  | .sri3 alpha => [0xB3, alpha]
  | .sri4 alpha => [0xB4, alpha]
  | .sri5 alpha => [0xB5, alpha]
  | .sri6 alpha => [0xB6, alpha]
  | .sri7 alpha => [0xB7, alpha]
  | .sri8 alpha => [0xB8, alpha]
  | .sri9 alpha => [0xB9, alpha]
  | .sri10 alpha => [0xBA, alpha]
  | .sri11 alpha => [0xBB, alpha]
  | .sri12 alpha => [0xBC, alpha]
  | .sri13 alpha => [0xBD, alpha]
  | .sri14 alpha => [0xBE, alpha]
  | .sri15 alpha => [0xBF, alpha]
  | .ror srcA srcB dst => 0xC0 :: encodeRR srcA srcB dst
  | .rand srcA srcB dst => 0xC1 :: encodeRR srcA srcB dst
  | .rrx srcA srcB dst => 0xC2 :: encodeRR srcA srcB dst
  | .rbc srcA srcB dst => 0xC3 :: encodeRR srcA srcB dst
  | .radd srcA srcB dst => 0xC4 :: encodeRR srcA srcB dst
  | .rsub srcA srcB dst => 0xC5 :: encodeRR srcA srcB dst
  | .rladd srcA srcB dst => 0xC6 :: encodeRR srcA srcB dst
  | .rlsub srcA srcB dst => 0xC7 :: encodeRR srcA srcB dst
  | .rxor srcA srcB dst => 0xC8 :: encodeRR srcA srcB dst
  | .reservedC9 alpha beta => [0xC9, alpha, beta]
  | .rfu srcA srcB dst => 0xCA :: encodeRR srcA srcB dst
  | .reservedCB alpha beta => [0xCB, alpha, beta]
  | .rvadd srcA srcB dst => 0xCC :: encodeRR srcA srcB dst
  | .rvsub srcA srcB dst => 0xCD :: encodeRR srcA srcB dst
  | .ruadd srcA srcB dst => 0xCE :: encodeRR srcA srcB dst
  | .rusub srcA srcB dst => 0xCF :: encodeRR srcA srcB dst
  | .lgf alpha beta => [0xD0, alpha, beta]
  | .lfc alpha beta => [0xD1, alpha, beta]
  | .lidb alpha beta => [0xD2, alpha, beta]
  | .fsdb alpha beta => [0xD3, alpha, beta]
  | .adddb alpha beta => [0xD4, alpha, beta]
  | .subdb alpha beta => [0xD5, alpha, beta]
  | .j3 alpha beta => [0xD6, alpha, beta]
  | .jdb alpha beta => [0xD7, alpha, beta]
  | .rai alpha betaL betaR => [0xD8, alpha, betaL ++ betaR]
  | .wai alpha betaL betaR => [0xD9, alpha, betaL ++ betaR]
  | .rri alpha betaL betaR => [0xDA, alpha, betaL ++ betaR]
  | .wri alpha betaL betaR => [0xDB, alpha, betaL ++ betaR]
  | .ioda alpha beta => [0xDC, alpha, beta]
  | .iod alpha beta => [0xDD, alpha, beta]
  | .ion alpha beta => [0xDE, alpha, beta]
  | .reservedDF alpha beta => [0xDF, alpha, beta]
  | .reservedE0 alpha beta => [0xE0, alpha, beta]
  | .rjeb srcS srcB beta => [0xE1, encodeRJB srcS srcB, beta]
  | .rjlb srcS srcB beta => [0xE2, encodeRJB srcS srcB, beta]
  | .rjleb srcS srcB beta => [0xE3, encodeRJB srcS srcB, beta]
  | .reservedE4 alpha beta => [0xE4, alpha, beta]
  | .rjneb srcS srcB beta => [0xE5, encodeRJB srcS srcB, beta]
  | .rjgeb srcS srcB beta => [0xE6, encodeRJB srcS srcB, beta]
  | .rjgb srcS srcB beta => [0xE7, encodeRJB srcS srcB, beta]
  | .reservedE8 alpha beta => [0xE8, alpha, beta]
  | .rjnebj srcS srcB beta => [0xE9, encodeRJB srcS srcB, beta]
  | .rjgebj srcS srcB beta => [0xEA, encodeRJB srcS srcB, beta]
  | .rjgbj srcS srcB beta => [0xEB, encodeRJB srcS srcB, beta]
  | .reservedEC alpha beta => [0xEC, alpha, beta]
  | .rjebj srcS srcB beta => [0xED, encodeRJB srcS srcB, beta]
  | .rjlbj srcS srcB beta => [0xEE, encodeRJB srcS srcB, beta]
  | .rjlebj srcS srcB beta => [0xEF, encodeRJB srcS srcB, beta]
  | .jebb alpha beta => [0xF0, alpha, beta]
  | .jnebb alpha beta => [0xF1, alpha, beta]
  | .jebbj alpha beta => [0xF2, alpha, beta]
  | .jnebbj alpha beta => [0xF3, alpha, beta]
  | .xopF4 alpha beta => [0xF4, alpha, beta]
  | .xopF5 alpha beta => [0xF5, alpha, beta]
  | .xopF6 alpha beta => [0xF6, alpha, beta]
  | .xopF7 alpha beta => [0xF7, alpha, beta]
  | .shl alpha beta => [0xF8, alpha, beta]
  | .shr alpha beta => [0xF9, alpha, beta]
  | .shdl alpha beta => [0xFA, alpha, beta]
  | .shdr alpha beta => [0xFB, alpha, beta]
  | .xopFC alpha beta => [0xFC, alpha, beta]
  | .xopFD alpha beta => [0xFD, alpha, beta]
  | .xopFE alpha beta => [0xFE, alpha, beta]
  | .xopFF alpha beta => [0xFF, alpha, beta]

/-! ## Words of the opcode table -/

/-- The longest instruction, in bytes (R70). -/
def maxLength : Nat := 5

/-- The bytes of a table word, the first byte its low eight bits; bits from `nbits` up are 0. -/
def bytesOfTableWord (nbits w : Nat) : List Byte :=
  (List.range maxLength).map fun k => BitVec.ofNat 8 ((w % 2 ^ nbits) / 256 ^ k)

/-- The instruction the decoder reads from a table word with the specifiers in the layout GK7 (log 10), none where
it refuses. -/
def decodeTableWord (nbits w : Nat) : Option Instr :=
  match decode Specifiers.allGk7 (bytesOfTableWord nbits w) with
  | .instr i => some i
  | .illegalOperands _ => none
  | .truncated => none

end Sys2Proof
end

