-- ==== Sys2Proof/Machine/Fetch.lean ====
section
/-! DEFINITION. Fetching instruction bytes (R52, R53, R58) and placing them. -/
namespace Sys2Proof.Machine

/-- The word that holds byte address `b` (R53). -/
def wordOf (b : Word) : Word := BitVec.ofNat 32 (b.toNat / 4)

/-- `IFetch(b)` (R52, R53): byte `b mod 4` of word `b div 4`, which is cell `b`. Refused outside the admitted
words (R54) and in a word the run has stored to (R62, log 19); a fault where the byte holds no value (R321). -/
def State.fetchByte (s : State) (b : Word) (k : Byte → Result) : Result :=
  if s.admits (wordOf b) then
    if s.stored.contains (b.toNat / 4) then .refused (.storedCode b)
    else match Memory.read s.mem b.toNat with
      | some v => k v
      | none => .fault (.unwrittenFetch b)
  else .refused (.outsideLaunch (wordOf b))

/-- `n` instruction bytes from `b` on, addresses modulo 2^32 (R52, R58). -/
def State.fetchBytes (s : State) (n : Nat) (b : Word) (k : List Byte → Result) : Result :=
  match n with
  | 0 => k []
  | n + 1 => s.fetchByte b fun v => s.fetchBytes n (b + 1) fun vs => k (v :: vs)

/-- The bytes of the instruction at `pc` (R326): the opcode byte, its length by R71, then the operand bytes. -/
def State.fetchInstr (s : State) (k : List Byte → Result) : Result :=
  s.fetchByte s.pc fun op => s.fetchBytes (lengthOf op - 1) (s.pc + 1) fun rest => k (op :: rest)

/-- Memory with `bytes` placed from byte address `b` on, addresses modulo 2^32 (R52). -/
def placeBytes (m : Memory) (b : Word) (bytes : List Byte) : Memory :=
  match bytes with
  | [] => m
  | v :: rest => placeBytes (Memory.write m b.toNat v) (b + 1) rest

/-- The launch admits word `a` too, unchanged where it does already (R54). -/
def admitWord (ranges : List WordRange) (a : Word) : List WordRange :=
  if ranges.any (fun r => decide (r.first.toNat ≤ a.toNat) && decide (a.toNat ≤ r.last.toNat)) then ranges
  else { first := a, last := a } :: ranges

/-- The state in which `bytes` (at most five) stand at `pc` as part of the launch's image (log 9): placed in
memory, their words admitted and not counted as stored, the exit address not at `pc`, the operand specifiers
read as the table words are (log 10). -/
def State.placeCode (s : State) (bytes : List Byte) : State :=
  { s with
    mem := placeBytes s.mem s.pc bytes
    stored := s.stored.filter fun a =>
      !(a == (wordOf s.pc).toNat || a == (wordOf (s.pc + 4)).toNat)
    params := { s.params with
      admitted := admitWord (admitWord s.params.admitted (wordOf s.pc)) (wordOf (s.pc + 4))
      pcExit := if s.params.pcExit = some s.pc then none else s.params.pcExit
      specifiers := Specifiers.allGk7 } }

end Sys2Proof.Machine
end

