-- ==== Sys2Proof/Machine/Step.lean ====
section
/-! DEFINITION. One step of the machine (R326), and placing an instruction where the next step fetches. -/
namespace Sys2Proof.Machine

/-- `pc` is the launch's exit address: the run has ended well (R325). -/
def State.ended (s : State) : Bool := s.params.pcExit == some s.pc

/-- What a step does with the bytes it fetched: the decoded instruction's meaning, or the refusal of R89. -/
def State.runBytes (s : State) (bytes : List Byte) : Host.Outcome State Fault Refusal :=
  match decode s.params.specifiers bytes with
  | .instr i => exec i s
  | .illegalOperands op => .refused (.illegalOperands op)
  | .truncated => .refused (.illegalOperands (bytes.headD 0))

/-- One step (R326): a run that has ended well stays as it is (log 21); else fetch, decode, run. -/
def step (s : State) : Host.Outcome State Fault Refusal :=
  if s.ended then .next s else s.fetchInstr fun bytes => s.runBytes bytes

/-- `s` with the instruction of a table word stored where the next step fetches it (log 9). -/
def State.withFetchWord (s : State) (nbits w : Nat) : State := s.placeCode (bytesOfTableWord nbits w)

end Sys2Proof.Machine
end

