-- ==== Sys2Proof/Safety.lean ====
section
/-! DEFINITION. What a good state and a good run are, and the words statements use to say what an instruction
changes and what it leaves alone: registers are compared by what reading them gives, memory byte by byte. -/
namespace Sys2Proof.Machine

/-! ## The invariant -/

/-- A state of the machine the spec describes (R20 to R38): memory and the stored set are in canonical form,
`S`, `L` and every saved `L` are indices below `NSTACK` (R23), `CS` holds no more links than `CSDEPTH` (R34),
the slots of `R` above `NSTACK` are blank (log 3), and every stored word is a word of memory that holds a value. -/
structure State.WF (s : State) : Prop where
  mem : Memory.wf s.mem = true
  topBelow : s.S.toNat < s.nstack
  localsBelow : s.L.toNat < s.nstack
  linksBelow : ∀ link ∈ s.CS, link.savedL.toNat < s.nstack
  depth : ∀ d, s.params.csDepth = some d → s.CS.length ≤ d
  spare : ∀ i : Fin 256, s.nstack ≤ i.val → s.R[i.val] = 0
  storedRises : natsRise s.stored = true
  storedHeld : ∀ a ∈ s.stored, a < 2 ^ 32 ∧ ∃ v, Memory.readWord s.mem (BitVec.ofNat 32 a) = some v

/-- A run from `s` ends well after `k` steps (R325): it reaches the exit address without a trap, a fault or a
refusal, in the state `t`. -/
def State.EndsWell (s : State) (k : Nat) (t : State) : Prop :=
  Host.Core.run Sys2Proof.core k s = .next t ∧ t.ended = true

/-! ## What is left alone -/

/-- Every register of `R` reads as before. -/
def KeepsR (s t : State) : Prop := ∀ i, t.readR i = s.readR i

/-- Register `j` of `R` reads `v`, every other one as before (indices modulo `NSTACK`, R23). -/
def SetsR (s t : State) (j : StackIdx) (v : Word) : Prop :=
  ∀ i, t.readR i = if s.wrap i = s.wrap j then v else s.readR i

/-- The auxiliary and constant registers and `Field` are as before. -/
def KeepsFiles (s t : State) : Prop :=
  (∀ n, t.readAux n = s.readAux n) ∧ (∀ n, t.readConst n = s.readConst n) ∧ t.Field = s.Field

/-- The mode bits, the processor registers, the link stack, the bus history, the draws and the launch
parameters are as before. -/
def KeepsSystem (s t : State) : Prop :=
  t.kernel = s.kernel ∧ t.trapsEnabled = s.trapsEnabled ∧ t.PReg = s.PReg ∧ t.CS = s.CS ∧
    t.events = s.events ∧ t.draws = s.draws ∧ t.params = s.params

/-- Every byte of memory reads as before, and nothing is added to the stored set. -/
def KeepsMemory (s t : State) : Prop :=
  (∀ a : Nat, Memory.read t.mem a = Memory.read s.mem a) ∧ t.stored = s.stored

/-- The word at `a` reads `v`; every byte outside its four reads as before; the word joins the stored set and
no other word does. -/
def StoresWord (s t : State) (a v : Word) : Prop :=
  Memory.readWord t.mem a = some v ∧
  (∀ c : Nat, c < 4 * a.toNat ∨ 4 * a.toNat + 3 < c → Memory.read t.mem c = Memory.read s.mem c) ∧
  (∀ b : Nat, b ∈ t.stored ↔ b = a.toNat ∨ b ∈ s.stored)

/-- What the word at `a` holds, where the launch admits it (R51, R54, R321). -/
def State.Holds (s : State) (a v : Word) : Prop :=
  s.admits a = true ∧ Memory.readWord s.mem a = some v

/-- SIP of a PReg number whose configured write sets the state `x` (R33, log 18). -/
def setsByPReg (s : State) (i : Instr) (x : PRegTarget) : Bool :=
  match i with
  | .sip a => decide ((s.pregMeaning a).write = .state x)
  | _ => false

/-! ## Fetching -/

/-- The instruction byte at `b` can be fetched and is `v`: its word is admitted (R54) and in no stored word
(R62), and it holds a value (R321). -/
def State.Fetchable (s : State) (b : Word) (v : Byte) : Prop :=
  s.admits (wordOf b) = true ∧ b.toNat / 4 ∉ s.stored ∧ Memory.read s.mem b.toNat = some v

/-- The next step fetches the bytes `before` and then one more: the run has not ended, the bytes can be fetched from
`pc` on, and they are fewer than the length of the opcode they start with (R71), if there is one yet. -/
def State.FetchReaches (s : State) (before : List Byte) : Prop :=
  s.ended = false ∧
  (∀ (k : Nat) (v : Byte), before[k]? = some v → s.Fetchable (s.pc + BitVec.ofNat 32 k) v) ∧
  ∀ op, before.head? = some op → before.length < lengthOf op

/-! ## The common shapes of a next state -/

/-- `R[S+1] <- v; S <- S+1; pc <- pc + len`, nothing else (R18). -/
def Pushed (s t : State) (v : Word) (len : Nat) : Prop :=
  t.S = s.wrap (s.S + 1) ∧ SetsR s t (s.S + 1) v ∧ t.L = s.L ∧ t.carry = s.carry ∧
    t.pc = s.pc + BitVec.ofNat 32 len ∧ KeepsFiles s t ∧ KeepsSystem s t ∧ KeepsMemory s t

/-- `R[j] <- v`, the carry `c`, `S <- S - pops`, `pc <- pc + len`, nothing else. -/
def WroteR (s t : State) (j : StackIdx) (v : Word) (c : Bool) (pops : StackIdx) (len : Nat) : Prop :=
  t.S = s.wrap (s.S - pops) ∧ SetsR s t j v ∧ t.L = s.L ∧ t.carry = c ∧
    t.pc = s.pc + BitVec.ofNat 32 len ∧ KeepsFiles s t ∧ KeepsSystem s t ∧ KeepsMemory s t

/-- As `WroteR`, but `S` is not written at all. -/
def WroteOnlyR (s t : State) (j : StackIdx) (v : Word) (c : Bool) (len : Nat) : Prop :=
  t.S = s.S ∧ SetsR s t j v ∧ t.L = s.L ∧ t.carry = c ∧
    t.pc = s.pc + BitVec.ofNat 32 len ∧ KeepsFiles s t ∧ KeepsSystem s t ∧ KeepsMemory s t

/-- `S`, `L` and `pc` become the values given, nothing else changes. -/
def Moved (s t : State) (newS newL : StackIdx) (newPc : Word) : Prop :=
  t.S = newS ∧ t.L = newL ∧ t.pc = newPc ∧ KeepsR s t ∧ t.carry = s.carry ∧
    KeepsFiles s t ∧ KeepsSystem s t ∧ KeepsMemory s t

/-- The word at `a` becomes `v`, `S` and `pc` the values given, nothing else changes. -/
def Stored (s t : State) (a v : Word) (newS : StackIdx) (newPc : Word) : Prop :=
  t.S = newS ∧ t.L = s.L ∧ t.pc = newPc ∧ KeepsR s t ∧ t.carry = s.carry ∧
    KeepsFiles s t ∧ KeepsSystem s t ∧ StoresWord s t a v

/-- A link `(pc + len, L)` is pushed, `pc` is `target`, `S` and the mode bits the values given, nothing else
changes (R17, R110). -/
def Called (s t : State) (target : Word) (len : Nat) (newS : StackIdx) (newKernel newTraps : Bool) : Prop :=
  t.CS = { ret := s.pc + BitVec.ofNat 32 len, savedL := s.L } :: s.CS ∧ t.pc = target ∧ t.S = newS ∧
    t.kernel = newKernel ∧ t.trapsEnabled = newTraps ∧
    t.L = s.L ∧ KeepsR s t ∧ t.carry = s.carry ∧ KeepsFiles s t ∧ KeepsMemory s t ∧
    t.PReg = s.PReg ∧ t.events = s.events ∧ t.draws = s.draws ∧ t.params = s.params

/-- The destination of a form RR or QR instruction written from `S0 = s.S` with `pops` elements popped: the
table of R218, `base` being the `S` after the pops or before them as `RC_BASE` says. The other registers of
`R`, `Aux` and `Const` are as before. -/
def DstWritten (s t : State) (dst : Dst) (pops : StackIdx) (r : Word) : Prop :=
  let base := if s.params.rcBase = .prePop then s.S else s.S - pops
  match dst with
  | .locals n => t.S = s.wrap (s.S - pops) ∧ SetsR s t (s.L + n.setWidth 8) r ∧
      (∀ m, t.readAux m = s.readAux m) ∧ (∀ m, t.readConst m = s.readConst m)
  | .aux n => t.S = s.wrap (s.S - pops) ∧ KeepsR s t ∧
      (∀ m, t.readAux m = if m = n then r else s.readAux m) ∧ (∀ m, t.readConst m = s.readConst m)
  | .const n => t.S = s.wrap (s.S - pops) ∧ KeepsR s t ∧
      (∀ m, t.readAux m = s.readAux m) ∧ (∀ m, t.readConst m = if m = n then r else s.readConst m)
  | .top => t.S = s.wrap (s.S - pops) ∧ SetsR s t base r ∧
      (∀ m, t.readAux m = s.readAux m) ∧ (∀ m, t.readConst m = s.readConst m)
  | .below => t.S = s.wrap (s.S - pops) ∧ SetsR s t (base - 1) r ∧
      (∀ m, t.readAux m = s.readAux m) ∧ (∀ m, t.readConst m = s.readConst m)
  | .push => t.S = s.wrap (s.S - pops + 1) ∧ SetsR s t (base + 1) r ∧
      (∀ m, t.readAux m = s.readAux m) ∧ (∀ m, t.readConst m = s.readConst m)

/-- What a form RR or QR instruction of length `len` leaves when it does not trap (R219): its destination, `S`,
the carry and `pc`, nothing else. -/
def RegisterResult (s t : State) (dst : Dst) (pops : StackIdx) (r : Word) (c : Bool) (len : Nat) : Prop :=
  DstWritten s t dst pops r ∧ t.carry = c ∧ t.pc = s.pc + BitVec.ofNat 32 len ∧ t.L = s.L ∧
    t.Field = s.Field ∧ KeepsSystem s t ∧ KeepsMemory s t

/-! ## Families of instructions -/

/-- The 74 xop instructions (R88). -/
def isXop (i : Instr) : Bool :=
  match i with
  | .xop00 | .xop01 | .xop02 | .xop03 | .xop04 | .xop05 | .xop06 | .xop07 | .xop08 | .xop09 | .xop0A
  | .xop0B | .xop0C | .xop0D | .xop0E | .xop0F | .xop1C | .xop1D | .xop1E | .xop1F | .xop20 _ _ _ _
  | .xop21 _ _ _ _ | .xop22 _ _ _ _ | .xop23 _ _ _ _ | .xop24 _ _ _ _ | .xop25 _ _ _ _ | .xop26 _ _ _ _
  | .xop27 _ _ _ _ | .xop28 _ _ _ _ | .xop29 _ _ _ _ | .xop2A _ _ _ _ | .xop2B _ _ _ _ | .xop2C _ _ _ _
  | .xop2D _ _ _ _ | .xop2E _ _ _ _ | .xop2F _ _ _ _ | .xop30 _ _ _ _ | .xop33 _ _ _ _ | .xop38 _ _ _ _
  | .xop39 _ _ _ _ | .xop3A _ _ _ _ | .xop3B _ _ _ _ | .xop3C _ _ _ _ | .xop3D _ _ _ _ | .xop3E _ _ _ _
  | .xop3F _ _ _ _ | .xop4A | .xop50 | .xop51 | .xop52 | .xop53 | .xop55 | .xop58 | .xop59 | .xop5A
  | .xop5B | .xop5C | .xop5D | .xop5E | .xop5F | .xop8D _ | .xop8F _ | .xop93 _ | .xop9C _ | .xop9D _
  | .xop9E _ | .xopF4 _ _ | .xopF5 _ _ | .xopF6 _ _ | .xopF7 _ _ | .xopFC _ _ | .xopFD _ _ | .xopFE _ _
  | .xopFF _ _ => true
  | _ => false

/-- The seven reserved instructions (R88). -/
def isReserved (i : Instr) : Bool :=
  match i with
  | .reservedC9 _ _ | .reservedCB _ _ | .reservedDF _ _ | .reservedE0 _ _ | .reservedE4 _ _
  | .reservedE8 _ _ | .reservedEC _ _ => true
  | _ => false

/-- The instructions that set the carry to 0 (R28; the stack subtracts, LADD and LSUB by D10 and D12, log 23). -/
def clearsCarry (i : Instr) : Bool :=
  match i with
  | .addqb _ _ _ _ | .subqb _ _ _ _ | .add | .sub | .ladd | .lsub | .qadd _ _ | .qsub _ _ | .qladd _ _
  | .qlsub _ _ | .addb _ | .subb _ | .radd _ _ _ | .rsub _ _ _ | .rladd _ _ _ | .rlsub _ _ _ | .adddb _ _
  | .subdb _ _ => true
  | _ => false

/-- The instructions that set the carry to the carry or borrow out (R28). -/
def setsCarry (i : Instr) : Bool :=
  match i with
  | .ruadd _ _ _ | .rusub _ _ _ => true
  | _ => false

/-- The instructions that write memory (R57). -/
def writesMemory (i : Instr) : Bool :=
  match i with
  | .cst _ | .wb _ | .wsb _ | .psb _ | .sri0 _ | .sri1 _ | .sri2 _ | .sri3 _ | .sri4 _ | .sri5 _ | .sri6 _
  | .sri7 _ | .sri8 _ | .sri9 _ | .sri10 _ | .sri11 _ | .sri12 _ | .sri13 _ | .sri14 _ | .sri15 _
  | .wai _ _ _ | .wri _ _ _ => true
  | _ => false

/-- The instructions of forms RR, QR and RJB, whose operand bytes the launch's specifier decoders read (R81 to R83). -/
def usesSpecifiers (i : Instr) : Bool :=
  match i with
  | .qor _ _ | .qand _ _ | .qrx _ _ | .qbc _ _ | .qadd _ _ | .qsub _ _ | .qladd _ _ | .qlsub _ _
  | .ror _ _ _ | .rand _ _ _ | .rrx _ _ _ | .rbc _ _ _ | .radd _ _ _ | .rsub _ _ _ | .rladd _ _ _
  | .rlsub _ _ _ | .rxor _ _ _ | .rfu _ _ _ | .rvadd _ _ _ | .rvsub _ _ _ | .ruadd _ _ _ | .rusub _ _ _
  | .rjeb _ _ _ | .rjlb _ _ _ | .rjleb _ _ _ | .rjneb _ _ _ | .rjgeb _ _ _ | .rjgb _ _ _ | .rjnebj _ _ _
  | .rjgebj _ _ _ | .rjgbj _ _ _ | .rjebj _ _ _ | .rjlbj _ _ _ | .rjlebj _ _ _ => true
  | _ => false

/-- The instructions of forms RR and QR, the only ones that name a destination register (R81, R82). -/
def namesDestination (i : Instr) : Bool :=
  match i with
  | .qor _ _ | .qand _ _ | .qrx _ _ | .qbc _ _ | .qadd _ _ | .qsub _ _ | .qladd _ _ | .qlsub _ _
  | .ror _ _ _ | .rand _ _ _ | .rrx _ _ _ | .rbc _ _ _ | .radd _ _ _ | .rsub _ _ _ | .rladd _ _ _
  | .rlsub _ _ _ | .rxor _ _ _ | .rfu _ _ _ | .rvadd _ _ _ | .rvsub _ _ _ | .ruadd _ _ _ | .rusub _ _ _ => true
  | _ => false

/-- The xop instructions with operand bytes `a`, `b`, `g`, `d`, each with its opcode, its length and the operand bytes
it has (R275, R278). -/
def xopTable (a b g d : Byte) : List (Instr × Byte × Nat × List Byte) :=
  [
    (.xop00, 0x00, 1, []), (.xop01, 0x01, 1, []), (.xop02, 0x02, 1, []), (.xop03, 0x03, 1, []),
    (.xop04, 0x04, 1, []), (.xop05, 0x05, 1, []), (.xop06, 0x06, 1, []), (.xop07, 0x07, 1, []),
    (.xop08, 0x08, 1, []), (.xop09, 0x09, 1, []), (.xop0A, 0x0A, 1, []), (.xop0B, 0x0B, 1, []),
    (.xop0C, 0x0C, 1, []), (.xop0D, 0x0D, 1, []), (.xop0E, 0x0E, 1, []), (.xop0F, 0x0F, 1, []),
    (.xop1C, 0x1C, 1, []), (.xop1D, 0x1D, 1, []), (.xop1E, 0x1E, 1, []), (.xop1F, 0x1F, 1, []),
    (.xop20 a b g d, 0x20, 5, [a, b, g, d]), (.xop21 a b g d, 0x21, 5, [a, b, g, d]),
    (.xop22 a b g d, 0x22, 5, [a, b, g, d]), (.xop23 a b g d, 0x23, 5, [a, b, g, d]),
    (.xop24 a b g d, 0x24, 5, [a, b, g, d]), (.xop25 a b g d, 0x25, 5, [a, b, g, d]),
    (.xop26 a b g d, 0x26, 5, [a, b, g, d]), (.xop27 a b g d, 0x27, 5, [a, b, g, d]),
    (.xop28 a b g d, 0x28, 5, [a, b, g, d]), (.xop29 a b g d, 0x29, 5, [a, b, g, d]),
    (.xop2A a b g d, 0x2A, 5, [a, b, g, d]), (.xop2B a b g d, 0x2B, 5, [a, b, g, d]),
    (.xop2C a b g d, 0x2C, 5, [a, b, g, d]), (.xop2D a b g d, 0x2D, 5, [a, b, g, d]),
    (.xop2E a b g d, 0x2E, 5, [a, b, g, d]), (.xop2F a b g d, 0x2F, 5, [a, b, g, d]),
    (.xop30 a b g d, 0x30, 5, [a, b, g, d]), (.xop33 a b g d, 0x33, 5, [a, b, g, d]),
    (.xop38 a b g d, 0x38, 5, [a, b, g, d]), (.xop39 a b g d, 0x39, 5, [a, b, g, d]),
    (.xop3A a b g d, 0x3A, 5, [a, b, g, d]), (.xop3B a b g d, 0x3B, 5, [a, b, g, d]),
    (.xop3C a b g d, 0x3C, 5, [a, b, g, d]), (.xop3D a b g d, 0x3D, 5, [a, b, g, d]),
    (.xop3E a b g d, 0x3E, 5, [a, b, g, d]), (.xop3F a b g d, 0x3F, 5, [a, b, g, d]),
    (.xop4A, 0x4A, 1, []), (.xop50, 0x50, 1, []), (.xop51, 0x51, 1, []), (.xop52, 0x52, 1, []),
    (.xop53, 0x53, 1, []), (.xop55, 0x55, 1, []), (.xop58, 0x58, 1, []), (.xop59, 0x59, 1, []),
    (.xop5A, 0x5A, 1, []), (.xop5B, 0x5B, 1, []), (.xop5C, 0x5C, 1, []), (.xop5D, 0x5D, 1, []),
    (.xop5E, 0x5E, 1, []), (.xop5F, 0x5F, 1, []), (.xop8D a, 0x8D, 2, [a]), (.xop8F a, 0x8F, 2, [a]),
    (.xop93 a, 0x93, 2, [a]), (.xop9C a, 0x9C, 2, [a]), (.xop9D a, 0x9D, 2, [a]),
    (.xop9E a, 0x9E, 2, [a]), (.xopF4 a b, 0xF4, 3, [a, b]), (.xopF5 a b, 0xF5, 3, [a, b]),
    (.xopF6 a b, 0xF6, 3, [a, b]), (.xopF7 a b, 0xF7, 3, [a, b]), (.xopFC a b, 0xFC, 3, [a, b]),
    (.xopFD a b, 0xFD, 3, [a, b]), (.xopFE a b, 0xFE, 3, [a, b]), (.xopFF a b, 0xFF, 3, [a, b]) ]

end Sys2Proof.Machine
end

