-- ==== Sys2Proof/Certificates/Slice0/Obligations.lean ====
section
/-! DEFINITION. The statements for the provers. Each docstring names the rules of spec/ a statement formalises
and, where it rests on a decision of the spec or a choice of the model, the decision (D) and the log entry.
Indices into the register stack are modulo NSTACK throughout (R23, D1, log 30); every statement holds for every
value of the launch parameters. -/
open Sys2Proof Sys2Proof.Machine

/-! ## Encoding -/

/-- Decoding the encoding of a well-formed instruction, whatever bytes follow it, gives the instruction back:
no bit of an encoding is dropped (R71, R85, R93). An instruction without operand specifiers has the same encoding
under every launch's decoders; for forms RR, QR and RJB the specifier bits are those of the layout GK7 (D22, log 10,
the model's choice). -/
def Obligations.DecodeOfEncodeIsTheInstruction : Prop :=
  ∀ (c : Specifiers) (i : Instr) (rest : List Byte), i.wf = true →
    (usesSpecifiers i = false ∨ c = Specifiers.allGk7) → decode c (encode i ++ rest) = .instr i

/-- The length of an instruction is a function of its opcode byte alone, the one R71 tabulates; with fewer bytes
the decoder rejects, and with at least so many it looks at no byte beyond them (R71). -/
def Obligations.LengthIsByOpcodeAlone : Prop :=
  ∀ (c : Specifiers) (op : Byte) (rest : List Byte),
    lengthOf op = (if op.toNat < 0x20 then 1 else if op.toNat < 0x40 then 5 else if op.toNat < 0x80 then 1
      else if op.toNat < 0xC0 then 2 else 3) ∧
    (rest.length + 1 < lengthOf op → decode c (op :: rest) = .truncated) ∧
    (lengthOf op ≤ rest.length + 1 → decode c (op :: rest) = decode c ((op :: rest).take (lengthOf op)) ∧
      decode c (op :: rest) ≠ .truncated)

/-- Whatever the launch's specifier decoders and whatever bytes are given, the instruction the decoder answers is well
formed (R89, R93, R216); and the launch's decoders decide forms RR, QR and RJB: bytes for which they answer operands
decode to the opcode's instruction with them, bytes for which they answer nothing are refused by the opcode's name
(R81 to R83, R221, R260). A decoder given as a table answers what the table lists and nothing else (D22; the table
form is log 10). -/
def Obligations.DecodedInstructionsAreWellFormed : Prop :=
  ∀ c : Specifiers,
    (∀ (bytes : List Byte) (i : Instr), decode c bytes = .instr i → i.wf = true) ∧
    (∀ (op : Byte) (f : Src → Src → Dst → Instr), (op, f) ∈ ([
        (0xC0, .ror), (0xC1, .rand), (0xC2, .rrx), (0xC3, .rbc), (0xC4, .radd), (0xC5, .rsub),
        (0xC6, .rladd), (0xC7, .rlsub), (0xC8, .rxor), (0xCA, .rfu), (0xCC, .rvadd), (0xCD, .rvsub),
        (0xCE, .ruadd), (0xCF, .rusub) ] : List (Byte × (Src → Src → Dst → Instr))) →
      ∀ (a b : Byte) (rest : List Byte), decode c (op :: a :: b :: rest)
        = match decodeRR c a b with
          | some (ra, rb, rc) => .instr (f ra rb rc)
          | none => .illegalOperands op) ∧
    (∀ (op : Byte) (f : QrSel → Src → Instr), (op, f) ∈ ([
        (0x80, .qor), (0x81, .qand), (0x82, .qrx), (0x83, .qbc), (0x84, .qadd), (0x85, .qsub),
        (0x86, .qladd), (0x87, .qlsub) ] : List (Byte × (QrSel → Src → Instr))) →
      ∀ (a : Byte) (rest : List Byte), decode c (op :: a :: rest)
        = match decodeQR c a with
          | some (sel, rb) => .instr (f sel rb)
          | none => .illegalOperands op) ∧
    (∀ (op : Byte) (f : RjbSrc → Src → Byte → Instr), (op, f) ∈ ([
        (0xE1, .rjeb), (0xE2, .rjlb), (0xE3, .rjleb), (0xE5, .rjneb), (0xE6, .rjgeb), (0xE7, .rjgb),
        (0xE9, .rjnebj), (0xEA, .rjgebj), (0xEB, .rjgbj), (0xED, .rjebj), (0xEE, .rjlbj), (0xEF, .rjlebj) ] : List (Byte × (RjbSrc → Src → Byte → Instr))) →
      ∀ (a b : Byte) (rest : List Byte), decode c (op :: a :: b :: rest)
        = match decodeRJB c a with
          | some (rs, rb) => .instr (f rs rb b)
          | none => .illegalOperands op) ∧
    (∀ entries, c.rr = .table entries → (entries.map Prod.fst).Nodup → ∀ (a b : Byte) (ra rb : Src) (rc : Dst),
      decodeRR c a b = some (ra, rb, rc) ↔ ((a, b), ra, rb, rc) ∈ entries ∧ separateKinds ra rb rc = true) ∧
    (∀ entries, c.qr = .table entries → (entries.map Prod.fst).Nodup → ∀ (a : Byte) (sel : QrSel) (rb : Src),
      decodeQR c a = some (sel, rb) ↔ (a, sel, rb) ∈ entries) ∧
    (∀ entries, c.rjb = .table entries → (entries.map Prod.fst).Nodup → ∀ (a : Byte) (rs : RjbSrc) (rb : Src),
      decodeRJB c a = some (rs, rb) ↔ (a, rs, rb) ∈ entries)

/-- Every opcode has one of the three statuses of R88 and no other: the 74 xop opcodes decode to xop instructions, the
7 reserved ones to reserved instructions, each whatever its operand bytes; every other opcode decodes to neither, or
is rejected by its own name for its operand bytes. -/
def Obligations.OpcodesHaveTheListedStatus : Prop :=
  ∀ (c : Specifiers) (op a b g d : Byte),
    let reserved := op ∈ ([0xC9, 0xCB, 0xDF, 0xE0, 0xE4, 0xE8, 0xEC] : List Byte)
    let xop := op ∈ ([
        0x00, 0x01, 0x02, 0x03, 0x04, 0x05, 0x06, 0x07, 0x08, 0x09, 0x0A, 0x0B, 0x0C, 0x0D, 0x0E, 0x0F,
        0x1C, 0x1D, 0x1E, 0x1F, 0x20, 0x21, 0x22, 0x23, 0x24, 0x25, 0x26, 0x27, 0x28, 0x29, 0x2A, 0x2B,
        0x2C, 0x2D, 0x2E, 0x2F, 0x30, 0x33, 0x38, 0x39, 0x3A, 0x3B, 0x3C, 0x3D, 0x3E, 0x3F, 0x4A, 0x50,
        0x51, 0x52, 0x53, 0x55, 0x58, 0x59, 0x5A, 0x5B, 0x5C, 0x5D, 0x5E, 0x5F, 0x8D, 0x8F, 0x93, 0x9C,
        0x9D, 0x9E, 0xF4, 0xF5, 0xF6, 0xF7, 0xFC, 0xFD, 0xFE, 0xFF ] : List Byte)
    (∀ i, decode c [op, a, b, g, d] = .instr i → (isReserved i = true ↔ reserved) ∧ (isXop i = true ↔ xop)) ∧
    (∀ o, decode c [op, a, b, g, d] = .illegalOperands o → o = op ∧ ¬ reserved ∧ ¬ xop) ∧
    decode c [op, a, b, g, d] ≠ .truncated

/-- A few encodings of each form written out bit by bit from R73 to R80 and R85 decode to the instructions they stand
for, whatever the launch's specifier decoders; one each of forms RR, QR and RJB (R81 to R83) in the layout GK7, the
model's choice (log 10). -/
def Obligations.SampleEncodingsDecode : Prop :=
  ∀ c : Specifiers,
    decode c [0b01000100] = .instr .add ∧
    decode c [0b00011011] = .instr .lc11 ∧
    decode c [0b01110001] = .instr .sr1 ∧
    decode c [0b10010010, 0b00101010] = .instr (.lib 42) ∧
    decode c [0b10110010, 0b00000100] = .instr (.sri2 4) ∧
    decode c [0b11010111, 0b11111111, 0b11111101] = .instr (.jdb 0xFF 0xFD) ∧
    decode c [0b11011010, 0b00010000, 0b00100101] = .instr (.rri 0x10 2 5) ∧
    decode c [0b11110000, 0b00000101, 0b00001010] = .instr (.jebb 5 10) ∧
    decode c [0b00110101, 0, 0, 0, 0b00001010] = .instr (.subqb 0 0 0 10) ∧
    decode Specifiers.allGk7 [0b11000100, 0b11101110, 0b11101111] = .instr (.radd .topPop .belowPop .push) ∧
    decode Specifiers.allGk7 [0b10000100, 0b10000011] = .instr (.qadd .pushConst0 (.locals 3)) ∧
    decode Specifiers.allGk7 [0b11100010, 0b11101100, 0b11111011] = .instr (.rjlb .const1 .top 0xFB)

/-- The operand bytes and the numbers made of them are those of R72: Alpha to Delta are the first to fourth bytes
after the opcode, BetaL and BetaR the halves of Beta, AlphaBeta is Alpha*256 + Beta, and so on. -/
def Obligations.OperandBytesAssembleAsStated : Prop :=
  ∀ (c : Specifiers) (a b g d : Byte),
    decode c [0x32, a, b, g, d] = .instr (.liqb a b g d) ∧
    decode c [0xDA, a, b] = .instr (.rri a (b.extractLsb' 4 4) (b.extractLsb' 0 4)) ∧
    (byteZ a).toNat = a.toNat ∧ (byteS a).toInt = a.toInt ∧
    (alphaBeta a b).toNat = a.toNat * 256 + b.toNat ∧
    (alphaBetaZ a b).toNat = a.toNat * 256 + b.toNat ∧
    (alphaBetaS a b).toInt = (alphaBeta a b).toInt ∧
    (quad a b g d).toNat = (alphaBeta a b).toNat * 65536 + g.toNat * 256 + d.toNat

/-! ## The step -/

/-- When the bytes at `pc` can be fetched (each admitted, holding a value and in no stored word), are as many as the
opcode's length and decode to `i`, a step that is not at the exit address is `exec i` of the same state: `exec`
itself moves `pc` (R52, R58, R326); where the launch's specifier decoders reject them it is refused by the opcode's
name (R89); at the exit address the run has ended well and the state stays as it is (R325). The exit address and the
stored words are log 19 and 21. -/
def Obligations.StepRunsTheDecodedInstruction : Prop :=
  (∀ s : State, s.params.pcExit = some s.pc → step s = .next s) ∧
  (∀ (s : State) (op : Byte) (rest : List Byte),
    s.ended = false → rest.length + 1 = lengthOf op →
    (∀ (k : Nat) (v : Byte), (op :: rest)[k]? = some v → s.Fetchable (s.pc + BitVec.ofNat 32 k) v) →
    (∀ i, decode s.params.specifiers (op :: rest) = .instr i → step s = exec i s) ∧
    (decode s.params.specifiers (op :: rest) = .illegalOperands op → step s = .refused (.illegalOperands op)))

/-- A table word that decodes to `i`, placed at `pc` of any state as part of the launch's image, is what the next
step runs (R52, R53, R326; log 9, log 10). -/
def Obligations.PlacedInstructionIsTheNextToRun : Prop :=
  ∀ (s : State) (nbits w : Nat) (i : Instr), decodeTableWord nbits w = some i →
    step (s.withFetchWord nbits w) = exec i (s.withFetchWord nbits w)

/-- A word once stored stays in the stored set, and a step is refused at the first byte of its instruction, the opcode
byte or any operand byte, that lies in an admitted word of that set, the bytes before it being fetchable (R62, R325,
D29; log 19, the model's choice of the point at which to refuse). -/
def Obligations.StoredWordsAreNeverFetched : Prop :=
  (∀ s t : State, step s = .next t → ∀ a ∈ s.stored, a ∈ t.stored) ∧
  (∀ (s : State) (before : List Byte) (b : Word), s.FetchReaches before →
    b = s.pc + BitVec.ofNat 32 before.length → s.admits (wordOf b) = true → b.toNat / 4 ∈ s.stored →
    step s = .refused (.storedCode b))

/-! ## Invariants and rules of the whole machine -/

/-- The state after reset meets the invariant (the reset values are the model's, log 2 to 8). -/
def Obligations.ResetIsWellFormed : Prop := State.reset.WF

/-- Every step keeps the invariant: memory canonical, S, L and saved L below NSTACK (R23), the link stack within
CSDEPTH (R34), every stored word held (R62), the slots above NSTACK blank (log 3). -/
def Obligations.StepKeepsWellFormedness : Prop :=
  ∀ s t : State, s.WF → step s = .next t → t.WF

/-- KFC sets `kernel` and clears `trapsEnabled`; no other instruction changes either but a SIP, in kernel mode, of a
PReg number whose configured write sets that bit, so without such a configuration none clears `kernel` or sets
`trapsEnabled` (R31, R32, R287, R295; D24, D32, D36; the configuration of the PReg numbers is log 18). -/
def Obligations.OnlyKfcChangesTheModeBits : Prop :=
  ∀ (i : Instr) (s t : State), exec i s = .next t →
    (i = .kfc → t.kernel = true ∧ t.trapsEnabled = false) ∧
    (i ≠ .kfc → (t.kernel = s.kernel ∨ setsByPReg s i .kernel = true) ∧
      (t.trapsEnabled = s.trapsEnabled ∨ setsByPReg s i .trapsEnabled = true)) ∧
    (s.kernel = true → t.kernel = true ∨ setsByPReg s i .kernel = true) ∧
    (s.trapsEnabled = false → t.trapsEnabled = false ∨ setsByPReg s i .trapsEnabled = true) ∧
    (∀ a, i = .sip a → s.kernel = true)

/-- The launch parameters are no state: no step changes them (R37; log 1). -/
def Obligations.NoStepChangesTheLaunchParameters : Prop :=
  ∀ s t : State, step s = .next t → t.params = s.params

/-- Who writes the carry (R28): the adds and subtracts that trap and the Lisp ones leave it 0, RUADD and RUSUB
write it, no other instruction changes it but a SIP of a PReg number configured to stand for it (D10 and D12 for the
stack subtracts, LADD and LSUB, log 23; R33, D24, log 18 for the SIP). -/
def Obligations.CarryIsWrittenOnlyAsListed : Prop :=
  ∀ (i : Instr) (s t : State), exec i s = .next t →
    (clearsCarry i = true → t.carry = false) ∧
    (clearsCarry i = false → setsCarry i = false → t.carry = s.carry ∨ setsByPReg s i .carry = true)

/-- Who writes memory (R57): no instruction but WB, WSB, PSB, SRIn, WAI, WRI and CST changes a byte of it. -/
def Obligations.MemoryIsWrittenOnlyAsListed : Prop :=
  ∀ (i : Instr) (s t : State), exec i s = .next t → writesMemory i = false →
    (∀ a : Nat, Memory.read t.mem a = Memory.read s.mem a) ∧ t.stored = s.stored

/-- Who writes the other registers: `Field` only FSDB (R30), `Aux` and `Const` only an instruction that names a
destination (R25, R26, D23), each of them also a SIP of a PReg number configured to stand for it, and the own word of
PReg number `k` only SIP `k` in kernel mode where its configured write is that word (R33, R295, D24, log 18). -/
def Obligations.SpecialRegistersAreWrittenOnlyAsListed : Prop :=
  ∀ (i : Instr) (s t : State), exec i s = .next t →
    (t.Field = s.Field ∨ (∃ a b, i = .fsdb a b) ∨ setsByPReg s i .field = true) ∧
    (namesDestination i = false →
      (∀ n, t.readAux n = s.readAux n ∨ setsByPReg s i (.aux n) = true) ∧
      (∀ n, t.readConst n = s.readConst n ∨ setsByPReg s i (.const n) = true)) ∧
    (∀ k : Byte, t.PReg[k.toNat] = s.PReg[k.toNat] ∨
      (s.kernel = true ∧ i = .sip k ∧ (s.pregMeaning k).write = .own))

/-- A trap names the address of the instruction that raised it and is taken only with traps enabled; a refused trap
condition means they were disabled; LinkUnderflow alone is not masked (R283, R284, R291; D9, D31, log 15). -/
def Obligations.TrapsArePreciseAndMasked : Prop :=
  ∀ (i : Instr) (s : State) (k : TrapKind),
    (∀ p, exec i s = .fault (.trap k p) → p = s.pc ∧ (s.trapsEnabled = true ∨ k = .linkUnderflow)) ∧
    (exec i s = .refused (.trapWhileDisabled k) → s.trapsEnabled = false ∧ k ≠ .linkUnderflow)

/-- The link stack is only pushed and popped: an instruction leaves it, or adds one link with the L of the moment, or
takes the newest link into pc and L (R17, R34; D17, log 26). -/
def Obligations.LinkStackIsOnlyPushedAndPopped : Prop :=
  ∀ (i : Instr) (s t : State), exec i s = .next t →
    t.CS = s.CS ∨
    (∃ ra, t.CS = { ret := ra, savedL := s.L } :: s.CS ∧ t.L = s.L) ∨
    (∃ link, s.CS = link :: t.CS ∧ t.pc = link.ret ∧ t.L = link.savedL ∧
      (i = .retn ∨ ∃ a, i = .ret a))

/-- A return undoes a call: after LFC, DFC, SFC or SFCI, RETN in any state with the callee's link stack goes back to
the byte after the call with the caller's L and link stack, S untouched (R17, R115, R117, R118, R169, R187; D17). -/
def Obligations.ReturnUndoesTheCall : Prop :=
  ∀ (i : Instr) (len : Nat) (a b g d : Byte),
    (i, len) ∈ ([(.sfc, 1), (.sfci, 1), (.lfc a b, 3), (.dfc a b g d, 5)] : List (Instr × Nat)) →
    ∀ s t u : State, exec i s = .next t → u.CS = t.CS →
      exec .retn u = .next { u with CS := s.CS, pc := s.pc + BitVec.ofNat 32 len, L := s.L }

/-- What a word holds after a store: the stored word reads back, every other word holds what it held (R51, R60; D6,
log 25). -/
def Obligations.StoredWordReadsBack : Prop :=
  ∀ (s : State) (a b v : Word),
    Memory.readWord (s.storeWord a v).mem b = if b = a then some v else Memory.readWord s.mem b

/-- The instruction byte at byte address `b` is byte `b mod 4`, the most significant first, of word `b div 4`
(R53; D7, log 25). -/
def Obligations.FetchReadsWordsMostSignificantByteFirst : Prop :=
  ∀ (m : Memory) (b w : Word), Memory.readWord m (wordOf b) = some w →
    Memory.read m b.toNat = some (w.extractLsb' (24 - 8 * (b.toNat % 4)) 8)

/-! ## Arithmetic -/

/-- The trapping sum and difference are the wrapped ones, and their overflow condition is two's-complement overflow:
the operands' signs agree (differ, for the difference) and the result's sign is the other one (R11, R12; D8, log 23). -/
def Obligations.OverflowIsTwosComplementOverflow : Prop :=
  ∀ (a b : Word) (c : Bool),
    (addOvf a b c).1 = a + b + (if c then 1 else 0) ∧
    ((addOvf a b c).2 = true ↔ a.msb = b.msb ∧ (addOvf a b c).1.msb ≠ a.msb) ∧
    (subOvf a b c).1 = a - b - (if c then 1 else 0) ∧
    ((subOvf a b c).2 = true ↔ a.msb ≠ b.msb ∧ (subOvf a b c).1.msb ≠ a.msb)

/-- A chain of two unsigned adds, the carry out of the low words into the high words, is the 64-bit sum with its
carry; of two unsigned subtracts the 64-bit difference with its borrow (R13; D11, log 23). -/
def Obligations.UnsignedChainsAreDoubleWordArithmetic : Prop :=
  ∀ (a1 a0 b1 b0 : Word) (c : Bool),
    (let lo := uAdd a0 b0 c
     let hi := uAdd a1 b1 lo.2
     (hi.1 ++ lo.1).toNat + (if hi.2 then 2 ^ 64 else 0)
       = (a1 ++ a0).toNat + (b1 ++ b0).toNat + (if c then 1 else 0)) ∧
    (let lo := uSub a0 b0 c
     let hi := uSub a1 b1 lo.2
     (hi.1 ++ lo.1).toNat + (b1 ++ b0).toNat + (if c then 1 else 0)
       = (a1 ++ a0).toNat + (if hi.2 then 2 ^ 64 else 0))

/-! ## Each instruction: no-ops and pushes -/

/-- J1, J2, J3 and J5 move `pc` past themselves and change nothing else; their operand bytes do not matter (R107,
R137, R163, R188). -/
def Obligations.JumpNoopsOnlyAdvancePc : Prop :=
  ∀ (s : State) (a b g d : Byte),
    encode .j1 = [0x56] ∧ encode (.j2 a) = [0x96, a] ∧ encode (.j3 a b) = [0xD6, a, b] ∧
    encode (.j5 a b g d) = [0x36, a, b, g, d] ∧
    exec .j1 s = .next { s with pc := s.pc + 1 } ∧
    exec (.j2 a) s = .next { s with pc := s.pc + 2 } ∧
    exec (.j3 a b) s = .next { s with pc := s.pc + 3 } ∧
    exec (.j5 a b g d) s = .next { s with pc := s.pc + 5 }

/-- LIB, LIDB and LIQB push their literal, zero-extended, and change nothing else (R139, R171, R190). -/
def Obligations.LiteralPushesComplete : Prop :=
  ∀ (s : State) (a b g d : Byte),
    (∃ t, exec (.lib a) s = .next t ∧ Pushed s t (BitVec.ofNat 32 a.toNat) 2) ∧
    (∃ t, exec (.lidb a b) s = .next t ∧ Pushed s t (BitVec.ofNat 32 (a.toNat * 256 + b.toNat)) 3) ∧
    (∃ t, exec (.liqb a b g d) s = .next t ∧
      Pushed s t (BitVec.ofNat 32 (((a.toNat * 256 + b.toNat) * 256 + g.toNat) * 256 + d.toNat)) 5)

/-- LC0 to LC11 push a constant register, DUP the top, LR0 to LR15 a local register, and change nothing else (R105,
R112, R201). -/
def Obligations.RegisterPushesComplete : Prop :=
  ∀ (s : State) (i : Instr) (v : Word) (len : Nat),
    (i, v, len) ∈ ([
      (.lc0, s.readConst 0, 1), (.lc1, s.readConst 1, 1), (.lc2, s.readConst 2, 1),
      (.lc3, s.readConst 3, 1), (.lc4, s.readConst 4, 1), (.lc5, s.readConst 5, 1),
      (.lc6, s.readConst 6, 1), (.lc7, s.readConst 7, 1), (.lc8, s.readConst 8, 1),
      (.lc9, s.readConst 9, 1), (.lc10, s.readConst 10, 1), (.lc11, s.readConst 11, 1),
      (.dup, s.readR s.S, 1), (.lr0, s.readR (s.localIdx 0), 1), (.lr1, s.readR (s.localIdx 1), 1),
      (.lr2, s.readR (s.localIdx 2), 1), (.lr3, s.readR (s.localIdx 3), 1),
      (.lr4, s.readR (s.localIdx 4), 1), (.lr5, s.readR (s.localIdx 5), 1),
      (.lr6, s.readR (s.localIdx 6), 1), (.lr7, s.readR (s.localIdx 7), 1),
      (.lr8, s.readR (s.localIdx 8), 1), (.lr9, s.readR (s.localIdx 9), 1),
      (.lr10, s.readR (s.localIdx 10), 1), (.lr11, s.readR (s.localIdx 11), 1),
      (.lr12, s.readR (s.localIdx 12), 1), (.lr13, s.readR (s.localIdx 13), 1),
      (.lr14, s.readR (s.localIdx 14), 1), (.lr15, s.readR (s.localIdx 15), 1) ] : List (Instr × Word × Nat)) →
    ∃ t, exec i s = .next t ∧ Pushed s t v len

/-- SR0 to SR15 move the top to a local register and pop; where the local is the top nothing is lost (R202). -/
def Obligations.LocalStoresComplete : Prop :=
  ∀ (s : State) (i : Instr) (n : Nibble),
    (i, n) ∈ ([
      (.sr0, 0), (.sr1, 1), (.sr2, 2), (.sr3, 3), (.sr4, 4), (.sr5, 5), (.sr6, 6), (.sr7, 7), (.sr8, 8),
      (.sr9, 9), (.sr10, 10), (.sr11, 11), (.sr12, 12), (.sr13, 13), (.sr14, 14), (.sr15, 15) ] : List (Instr × Nibble)) →
    ∃ t, exec i s = .next t ∧ WroteR s t (s.L + n.setWidth 8) (s.readR s.S) s.carry 1 1

/-! ## Each instruction: the stack operations -/

/-- OR, AND and EXDIS leave their result where the lower element was and pop one (R102, R106, R114); SHDL and SHDR
the same with the free value FieldUnit of the two elements in their two orders (R172, R173); SHL and SHR replace the
top by FieldUnit of it and 0, or of it twice, and S does not move (R174, R175; D14, log 11). -/
def Obligations.StackLogicAndShiftsComplete : Prop :=
  ∀ (s : State) (a b : Byte),
    (∀ (i : Instr) (v : Word) (len : Nat), (i, v, len) ∈ ([
      (.or, s.readR s.S ||| s.readR (s.S - 1), 1),
      (.and, s.readR s.S &&& s.readR (s.S - 1), 1),
      (.exdis, s.readR s.S, 1),
      (.shdl a b, Config.fieldUnit (s.readR (s.S - 1)) (s.readR s.S) (alphaBetaZ a b), 3),
      (.shdr a b, Config.fieldUnit (s.readR s.S) (s.readR (s.S - 1)) (alphaBetaZ a b), 3) ]
        : List (Instr × Word × Nat)) →
    ∃ t, exec i s = .next t ∧ WroteR s t (s.S - 1) v s.carry 1 len) ∧
    (∃ t, exec (.shl a b) s = .next t ∧
      WroteOnlyR s t s.S (Config.fieldUnit (s.readR s.S) 0 (alphaBetaZ a b)) s.carry 3) ∧
    (∃ t, exec (.shr a b) s = .next t ∧
      WroteOnlyR s t s.S (Config.fieldUnit (s.readR s.S) (s.readR s.S) (alphaBetaZ a b)) s.carry 3)

/-- ADD and SUB, when the exact signed result with the carry fits a word: the result read as signed IS that exact
number, it stands where the lower element was, the carry is 0 and S is one lower (R101, R119; D8, D10, log 23). -/
def Obligations.StackAddAndSubtractComplete : Prop :=
  ∀ (s : State) (i : Instr) (z : Int),
    (i, z) ∈ ([
      (.add, (s.readR s.S).toInt + (s.readR (s.S - 1)).toInt + (if s.carry then 1 else 0)),
      (.sub, (s.readR (s.S - 1)).toInt - (s.readR s.S).toInt - (if s.carry then 1 else 0)) ]
        : List (Instr × Int)) →
    -(2 ^ 31) ≤ z → z ≤ 2 ^ 31 - 1 →
    ∃ t r, exec i s = .next t ∧ r.toInt = z ∧ WroteR s t (s.S - 1) r false 1 1

/-- ADDB, ADDDB, ADDQB, SUBB, SUBDB and SUBQB, when the exact signed result with the carry fits a word: the top
becomes that exact number, the carry 0, S does not move. The one- and two-byte literals are zero-extended, the
four-byte one is the signed word (R131, R146, R161, R176, R186, R191; D8, D10, log 23). -/
def Obligations.LiteralAddAndSubtractComplete : Prop :=
  ∀ (s : State) (a b g d : Byte) (i : Instr) (z : Int) (len : Nat),
    (i, z, len) ∈ ([
      (.addb a, (s.readR s.S).toInt + a.toNat + (if s.carry then 1 else 0), 2),
      (.adddb a b, (s.readR s.S).toInt + (a.toNat * 256 + b.toNat : Nat) + (if s.carry then 1 else 0), 3),
      (.addqb a b g d, (s.readR s.S).toInt + (quad a b g d).toInt + (if s.carry then 1 else 0), 5),
      (.subb a, (s.readR s.S).toInt - a.toNat - (if s.carry then 1 else 0), 2),
      (.subdb a b, (s.readR s.S).toInt - (a.toNat * 256 + b.toNat : Nat) - (if s.carry then 1 else 0), 3),
      (.subqb a b g d, (s.readR s.S).toInt - (quad a b g d).toInt - (if s.carry then 1 else 0), 5) ]
        : List (Instr × Int × Nat)) →
    -(2 ^ 31) ≤ z → z ≤ 2 ^ 31 - 1 →
    ∃ t r, exec i s = .next t ∧ r.toInt = z ∧ WroteOnlyR s t s.S r false len

/-- The twelve trapping adds and subtracts, when the exact signed result with the carry does not fit a word: with
traps enabled the trap Overflow at the instruction's own address, with traps disabled the refusal (R11, R12, R280,
R291; D8, D9, D31, log 15, log 23). -/
def Obligations.OverflowTraps : Prop :=
  ∀ (s : State) (a b g d : Byte) (ra rb : Src) (rc : Dst) (sel : QrSel) (i : Instr) (z : Int),
    separateKinds ra rb rc = true →
    (i, z) ∈ ([
      (.add, (s.readR s.S).toInt + (s.readR (s.S - 1)).toInt + (if s.carry then 1 else 0)),
      (.addb a, (s.readR s.S).toInt + a.toNat + (if s.carry then 1 else 0)),
      (.adddb a b, (s.readR s.S).toInt + (a.toNat * 256 + b.toNat : Nat) + (if s.carry then 1 else 0)),
      (.addqb a b g d, (s.readR s.S).toInt + (quad a b g d).toInt + (if s.carry then 1 else 0)),
      (.radd ra rb rc, (s.readSrc ra).toInt + (s.readSrc rb).toInt + (if s.carry then 1 else 0)),
      (.qadd sel rb, (s.readSrc (qrSrc sel)).toInt + (s.readSrc rb).toInt + (if s.carry then 1 else 0)),
      (.sub, (s.readR (s.S - 1)).toInt - (s.readR s.S).toInt - (if s.carry then 1 else 0)),
      (.subb a, (s.readR s.S).toInt - a.toNat - (if s.carry then 1 else 0)),
      (.subdb a b, (s.readR s.S).toInt - (a.toNat * 256 + b.toNat : Nat) - (if s.carry then 1 else 0)),
      (.subqb a b g d, (s.readR s.S).toInt - (quad a b g d).toInt - (if s.carry then 1 else 0)),
      (.rsub ra rb rc, (s.readSrc ra).toInt - (s.readSrc rb).toInt - (if s.carry then 1 else 0)),
      (.qsub sel rb, (s.readSrc (qrSrc sel)).toInt - (s.readSrc rb).toInt - (if s.carry then 1 else 0)) ]
        : List (Instr × Int)) →
    (z < -(2 ^ 31) ∨ 2 ^ 31 - 1 < z) →
    (s.trapsEnabled = true → exec i s = .fault (.trap .overflow s.pc)) ∧
    (s.trapsEnabled = false → exec i s = .refused (.trapWhileDisabled .overflow))

/-- LADD and LSUB, when the launch's predicate Lisp NaN does not hold of the operands and the result: the wrapped sum
or difference without the carry, the carry 0, S one lower; when it holds, the trap LispNaN, or with traps disabled
the refusal (R14, R111, R113, R291; D12, D13, D31, log 12, log 15, log 23). -/
def Obligations.StackLispArithmetic : Prop :=
  ∀ (s : State) (i : Instr) (r : Word),
    (i, r) ∈ ([
      (.ladd, s.readR (s.S - 1) + s.readR s.S), (.lsub, s.readR (s.S - 1) - s.readR s.S) ] : List (Instr × Word)) →
    ((s.readR (s.S - 1), s.readR s.S, r) ∉ s.params.lispNaN →
      ∃ t, exec i s = .next t ∧ WroteR s t (s.S - 1) r false 1 1) ∧
    ((s.readR (s.S - 1), s.readR s.S, r) ∈ s.params.lispNaN →
      (s.trapsEnabled = true → exec i s = .fault (.trap .lispNaN s.pc)) ∧
      (s.trapsEnabled = false → exec i s = .refused (.trapWhileDisabled .lispNaN)))

/-- BC pops the bound and writes no register when the value is below it, unsigned; else it traps BoundsCheck, or with
traps disabled is refused (R15, R103, R291; D31, log 15). -/
def Obligations.BoundsCheckPassesOrTraps : Prop :=
  ∀ s : State,
    ((s.readR (s.S - 1)).toNat < (s.readR s.S).toNat →
      ∃ t, exec .bc s = .next t ∧ Moved s t (s.wrap (s.S - 1)) s.L (s.pc + 1)) ∧
    ((s.readR s.S).toNat ≤ (s.readR (s.S - 1)).toNat →
      (s.trapsEnabled = true → exec .bc s = .fault (.trap .boundsCheck s.pc)) ∧
      (s.trapsEnabled = false → exec .bc s = .refused (.trapWhileDisabled .boundsCheck)))

/-- DIS, AS, ASL, AL and ALS move S or L, modulo NSTACK, and write no register of R; Alpha counts as signed (R104,
R130, R132 to R135; D2, log 24). Reducing an index modulo NSTACK is the remainder, and a register is read at the
reduced index (R20, R23; D1, log 30). -/
def Obligations.IndexMovesComplete : Prop :=
  (∀ (s : State) (i : StackIdx), (s.wrap i).toNat = i.toNat % 2 ^ s.params.stackLog.val ∧
    s.R[i.toNat % 2 ^ s.params.stackLog.val]? = some (s.readR i)) ∧
  (∀ (s : State) (a : Byte) (i : Instr) (newS newL : StackIdx) (len : Nat),
    (i, newS, newL, len) ∈ ([
      (.dis, s.wrap (s.S - 1), s.L, 1),
      (.as a, s.wrap (s.S + BitVec.ofInt 8 a.toInt), s.L, 2),
      (.asl a, s.wrap (s.L + BitVec.ofInt 8 a.toInt), s.L, 2),
      (.al a, s.S, s.wrap (s.L + BitVec.ofInt 8 a.toInt), 2),
      (.als a, s.S, s.wrap (s.S + BitVec.ofInt 8 a.toInt), 2) ] : List (Instr × StackIdx × StackIdx × Nat)) →
    ∃ t, exec i s = .next t ∧ Moved s t newS newL (s.pc + BitVec.ofNat 32 len))

/-- FSDB puts the sum of its literal and the top in `Field`, pops, and leaves carry, the register files and memory
alone (R30, R162; D14). -/
def Obligations.FieldSetupCompletes : Prop :=
  ∀ (s : State) (a b : Byte), ∃ t, exec (.fsdb a b) s = .next t ∧
    t.Field = BitVec.ofNat 32 (a.toNat * 256 + b.toNat) + s.readR s.S ∧ t.S = s.wrap (s.S - 1) ∧ t.L = s.L ∧
    t.carry = s.carry ∧ t.pc = s.pc + 3 ∧ KeepsR s t ∧ t.Aux = s.Aux ∧ t.Const = s.Const ∧
    KeepsSystem s t ∧ KeepsMemory s t

/-! ## Each instruction: jumps, calls, returns -/

/-- JSD, JSR, JB, JDB and JQB set `pc`, the relative ones from their own address with a signed offset; JSD and JSR
pop; nothing else changes (R108, R109, R138, R164, R189; D3, D4, log 24). -/
def Obligations.JumpsComplete : Prop :=
  ∀ (s : State) (a b g d : Byte) (i : Instr) (newS : StackIdx) (newPc : Word),
    (i, newS, newPc) ∈ ([
      (.jsd, s.wrap (s.S - 1), s.readR s.S),
      (.jsr, s.wrap (s.S - 1), s.pc + s.readR s.S),
      (.jb a, s.S, s.pc + BitVec.ofInt 32 a.toInt),
      (.jdb a b, s.S, s.pc + BitVec.ofInt 32 (alphaBeta a b).toInt),
      (.jqb a b g d, s.S, quad a b g d) ] : List (Instr × StackIdx × Word)) →
    ∃ t, exec i s = .next t ∧ Moved s t newS s.L newPc

/-- JEBB, JEBBJ, JNEBB and JNEBBJ compare the whole top with the zero-extended literal, jump from their own address
by the signed offset or go on, and pop either way (R195 to R198; D15, D16, log 28). -/
def Obligations.LiteralCompareJumpsComplete : Prop :=
  ∀ (s : State) (a b : Byte) (i : Instr) (taken : Bool),
    (i, taken) ∈ ([
      (.jebb a b, decide ((s.readR s.S).toNat = a.toNat)), (.jebbj a b, decide ((s.readR s.S).toNat = a.toNat)),
      (.jnebb a b, decide ((s.readR s.S).toNat ≠ a.toNat)), (.jnebbj a b, decide ((s.readR s.S).toNat ≠ a.toNat)) ]
        : List (Instr × Bool)) →
    ∃ t, exec i s = .next t ∧
      Moved s t (s.wrap (s.S - 1)) s.L (s.pc + (if taken then BitVec.ofInt 32 b.toInt else 3))

/-- The twelve RJB jumps compare Rs and Rb, both read against the S at the start, the ordered conditions signed; they
jump by the signed offset or go on, and pop what the specifiers say either way (R217, R261 to R268; D8, D15, D16,
D21, log 28, log 29). Rs is one of [S], [S]-, Constants[0] and Constants[1] (R260); what a specifier reads and pops is
pinned in PlainRegisterOperationsComplete and, for the four of R260, here. -/
def Obligations.RegisterCompareJumpsComplete : Prop :=
  (∀ (s : State) (rs : RjbSrc) (v : Word) (pops : StackIdx),
    (rs, v, pops) ∈ ([ (.top, s.readR s.S, 0), (.topPop, s.readR s.S, 1), (.const0, s.Const[0], 0),
      (.const1, s.Const[1], 0) ] : List (RjbSrc × Word × StackIdx)) →
    s.readSrc (rjbSrc rs) = v ∧ srcPops (rjbSrc rs) = pops) ∧
  (∀ (s : State) (rs : RjbSrc) (rb : Src) (beta : Byte) (i : Instr) (taken : Bool),
    (i, taken) ∈ ([
      (.rjeb rs rb beta, decide (s.readSrc (rjbSrc rs) = s.readSrc rb)),
      (.rjebj rs rb beta, decide (s.readSrc (rjbSrc rs) = s.readSrc rb)),
      (.rjneb rs rb beta, decide (s.readSrc (rjbSrc rs) ≠ s.readSrc rb)),
      (.rjnebj rs rb beta, decide (s.readSrc (rjbSrc rs) ≠ s.readSrc rb)),
      (.rjlb rs rb beta, decide ((s.readSrc (rjbSrc rs)).toInt < (s.readSrc rb).toInt)),
      (.rjlbj rs rb beta, decide ((s.readSrc (rjbSrc rs)).toInt < (s.readSrc rb).toInt)),
      (.rjleb rs rb beta, decide ((s.readSrc (rjbSrc rs)).toInt ≤ (s.readSrc rb).toInt)),
      (.rjlebj rs rb beta, decide ((s.readSrc (rjbSrc rs)).toInt ≤ (s.readSrc rb).toInt)),
      (.rjgeb rs rb beta, decide ((s.readSrc rb).toInt ≤ (s.readSrc (rjbSrc rs)).toInt)),
      (.rjgebj rs rb beta, decide ((s.readSrc rb).toInt ≤ (s.readSrc (rjbSrc rs)).toInt)),
      (.rjgb rs rb beta, decide ((s.readSrc rb).toInt < (s.readSrc (rjbSrc rs)).toInt)),
      (.rjgbj rs rb beta, decide ((s.readSrc rb).toInt < (s.readSrc (rjbSrc rs)).toInt)) ] : List (Instr × Bool)) →
    ∃ t, exec i s = .next t ∧
      Moved s t (s.wrap (s.S - (srcPops (rjbSrc rs) + srcPops rb))) s.L
        (s.pc + (if taken then BitVec.ofInt 32 beta.toInt else 3)))

/-- SFC, DFC, LFC and SFCI, with room on the link stack (and for SFCI an admitted pointer word that holds a value),
push the link to the byte after themselves with L and go to their target; SFC pops, SFCI pops only where SFCI_POPS
says so, S is otherwise untouched (R17, R34, R117, R118, R169, R187; D4, D17, D19, log 22, log 26). -/
def Obligations.CallsComplete : Prop :=
  ∀ (s : State) (a b g d : Byte), s.csFull = false →
    (∃ t, exec .sfc s = .next t ∧
      Called s t (s.readR s.S) 1 (s.wrap (s.S - 1)) s.kernel s.trapsEnabled) ∧
    (∃ t, exec (.dfc a b g d) s = .next t ∧
      Called s t (quad a b g d) 5 s.S s.kernel s.trapsEnabled) ∧
    (∃ t, exec (.lfc a b) s = .next t ∧
      Called s t (s.pc + BitVec.ofInt 32 (alphaBeta a b).toInt) 3 s.S s.kernel s.trapsEnabled) ∧
    (∀ v, s.Holds (s.readR s.S) v → ∃ t, exec .sfci s = .next t ∧
      Called s t v 1 (if s.params.sfciPops then s.wrap (s.S - 1) else s.S) s.kernel s.trapsEnabled)

/-- KFC, with room on the link stack, in either mode: the link to the next byte with L, pc from InstTrap(0x54), kernel
mode, traps disabled, nothing else (R110, R285, R288; D18, log 13, log 26). -/
def Obligations.KfcEntersKernelMode : Prop :=
  ∀ s : State, s.csFull = false →
    ∃ t, exec .kfc s = .next t ∧ Called s t s.params.instTrap[0x54] 1 s.S true false

/-- RET and RETN take pc and L from the newest link and leave the mode bits alone; RET sets S from the callee's L,
RETN keeps S; with the link stack empty both trap LinkUnderflow (R17, R115, R143, R287; D17, log 26), traps enabled or not: that
R291 does not mask it is read from its list of five kinds, the model's inference (log 15). -/
def Obligations.ReturnsTakeTheNewestLink : Prop :=
  ∀ (s : State) (a : Byte) (i : Instr) (newS : StackIdx),
    (i, newS) ∈ ([ (.retn, s.S), (.ret a, s.wrap (s.L + BitVec.ofInt 8 a.toInt)) ] : List (Instr × StackIdx)) →
    (∀ link rest, s.CS = link :: rest →
      exec i s = .next { s with CS := rest, pc := link.ret, L := link.savedL, S := newS }) ∧
    (s.CS = [] → exec i s = .fault (.trap .linkUnderflow s.pc))

/-! ## Each instruction: memory -/

/-- The loads, when the word addressed is admitted and holds `v`: RX leaves it where the lower element was and pops,
RB replaces the top, RSB, LGF and LRI0 to LRI15 push it, RAI and RRI put it in local register BetaL with S unmoved;
address sums are modulo 2^32; memory is untouched (R51, R116, R142, R144, R170, R203, R205, R206; D6, log 25). -/
def Obligations.LoadsComplete : Prop :=
  ∀ (s : State) (a b : Byte) (bl br : Nibble) (v : Word),
    (s.Holds (s.readR (s.S - 1) + s.readR s.S) v →
      ∃ t, exec .rx s = .next t ∧ WroteR s t (s.S - 1) v s.carry 1 1) ∧
    (s.Holds (s.readR s.S + byteZ a) v → ∃ t, exec (.rb a) s = .next t ∧ WroteOnlyR s t s.S v s.carry 2) ∧
    (s.Holds (s.readR s.S + byteZ a) v → ∃ t, exec (.rsb a) s = .next t ∧ Pushed s t v 2) ∧
    (s.Holds (s.readAux 0 + alphaBetaZ a b) v → ∃ t, exec (.lgf a b) s = .next t ∧ Pushed s t v 3) ∧
    (∀ (i : Instr) (n : Nibble), (i, n) ∈ ([
      (.lri0 a, 0), (.lri1 a, 1), (.lri2 a, 2), (.lri3 a, 3), (.lri4 a, 4), (.lri5 a, 5), (.lri6 a, 6),
      (.lri7 a, 7), (.lri8 a, 8), (.lri9 a, 9), (.lri10 a, 10), (.lri11 a, 11), (.lri12 a, 12),
      (.lri13 a, 13), (.lri14 a, 14), (.lri15 a, 15) ] : List (Instr × Nibble)) →
      s.Holds (s.readR (s.localIdx n) + byteZ a) v → ∃ t, exec i s = .next t ∧ Pushed s t v 2) ∧
    (s.Holds (s.readAux br + byteZ a) v →
      ∃ t, exec (.rai a bl br) s = .next t ∧ WroteOnlyR s t (s.L + bl.setWidth 8) v s.carry 3) ∧
    (s.Holds (s.readR (s.localIdx br) + byteZ a) v →
      ∃ t, exec (.rri a bl br) s = .next t ∧ WroteOnlyR s t (s.L + bl.setWidth 8) v s.carry 3)

/-- The stores, to an admitted word: WB (pointer on top), WSB and PSB (pointer below) and SRI0 to SRI15 (pointer in a
local) store from the stack and pop two, two, one and one; WAI and WRI store local register BetaL with S unmoved; each
writes the four bytes of one word and no other byte (R51, R141, R147, R148, R204, R207, R208; D6, log 25). -/
def Obligations.StoresComplete : Prop :=
  ∀ (s : State) (a : Byte) (bl br : Nibble),
    (s.admits (s.readR s.S + byteZ a) = true → ∃ t, exec (.wb a) s = .next t ∧
      Stored s t (s.readR s.S + byteZ a) (s.readR (s.S - 1)) (s.wrap (s.S - 2)) (s.pc + 2)) ∧
    (s.admits (s.readR (s.S - 1) + byteZ a) = true → ∃ t, exec (.wsb a) s = .next t ∧
      Stored s t (s.readR (s.S - 1) + byteZ a) (s.readR s.S) (s.wrap (s.S - 2)) (s.pc + 2)) ∧
    (s.admits (s.readR (s.S - 1) + byteZ a) = true → ∃ t, exec (.psb a) s = .next t ∧
      Stored s t (s.readR (s.S - 1) + byteZ a) (s.readR s.S) (s.wrap (s.S - 1)) (s.pc + 2)) ∧
    (∀ (i : Instr) (n : Nibble), (i, n) ∈ ([
      (.sri0 a, 0), (.sri1 a, 1), (.sri2 a, 2), (.sri3 a, 3), (.sri4 a, 4), (.sri5 a, 5), (.sri6 a, 6),
      (.sri7 a, 7), (.sri8 a, 8), (.sri9 a, 9), (.sri10 a, 10), (.sri11 a, 11), (.sri12 a, 12),
      (.sri13 a, 13), (.sri14 a, 14), (.sri15 a, 15) ] : List (Instr × Nibble)) →
      s.admits (s.readR (s.localIdx n) + byteZ a) = true → ∃ t, exec i s = .next t ∧
        Stored s t (s.readR (s.localIdx n) + byteZ a) (s.readR s.S) (s.wrap (s.S - 1)) (s.pc + 2)) ∧
    (s.admits (s.readAux br + byteZ a) = true → ∃ t, exec (.wai a bl br) s = .next t ∧
      Stored s t (s.readAux br + byteZ a) (s.readR (s.localIdx bl)) s.S (s.pc + 3)) ∧
    (s.admits (s.readR (s.localIdx br) + byteZ a) = true → ∃ t, exec (.wri a bl br) s = .next t ∧
      Stored s t (s.readR (s.localIdx br) + byteZ a) (s.readR (s.localIdx bl)) s.S (s.pc + 3))

/-- CST on an admitted word that holds `m`: the word read is pushed; the new value is stored if and only if the word
equals the old value, and no other byte of memory changes (R136; D20, log 27). -/
def Obligations.ConditionalStoreCompletes : Prop :=
  ∀ (s : State) (a : Byte) (m : Word), s.Holds (s.readR (s.S - 2) + byteZ a) m →
    ∃ t, exec (.cst a) s = .next t ∧ t.S = s.wrap (s.S + 1) ∧ SetsR s t (s.S + 1) m ∧ t.L = s.L ∧
      t.carry = s.carry ∧ t.pc = s.pc + 2 ∧ KeepsFiles s t ∧ KeepsSystem s t ∧
      (if m = s.readR s.S then StoresWord s t (s.readR (s.S - 2) + byteZ a) (s.readR (s.S - 1))
        else KeepsMemory s t)

/-- What stops an access to memory, for every instruction of R57 that reads or writes it and for the fetch: outside the
admitted words it is refused, and a read or fetch of what holds no value faults (R51, R54, R57, R59, R321; D6, D21,
D27, log 8, log 20, log 25, log 29). -/
def Obligations.InadmissibleAccessesStop : Prop :=
  (∀ (s : State) (a b : Byte) (bl br : Nibble) (ra rb : Src) (rc : Dst) (sel : QrSel) (i : Instr) (addr : Word),
    separateKinds ra rb rc = true →
    (i, addr) ∈ ([
      (.rx, s.readR (s.S - 1) + s.readR s.S), (.qrx sel rb, s.readSrc (qrSrc sel) + s.readSrc rb),
      (.rrx ra rb rc, s.readSrc ra + s.readSrc rb), (.rb a, s.readR s.S + byteZ a),
      (.rsb a, s.readR s.S + byteZ a), (.lgf a b, s.readAux 0 + alphaBetaZ a b),
      (.rai a bl br, s.readAux br + byteZ a), (.rri a bl br, s.readR (s.localIdx br) + byteZ a),
      (.sfci, s.readR s.S), (.cst a, s.readR (s.S - 2) + byteZ a),
      (.lri0 a, s.readR (s.localIdx 0) + byteZ a), (.lri1 a, s.readR (s.localIdx 1) + byteZ a),
      (.lri2 a, s.readR (s.localIdx 2) + byteZ a), (.lri3 a, s.readR (s.localIdx 3) + byteZ a),
      (.lri4 a, s.readR (s.localIdx 4) + byteZ a), (.lri5 a, s.readR (s.localIdx 5) + byteZ a),
      (.lri6 a, s.readR (s.localIdx 6) + byteZ a), (.lri7 a, s.readR (s.localIdx 7) + byteZ a),
      (.lri8 a, s.readR (s.localIdx 8) + byteZ a), (.lri9 a, s.readR (s.localIdx 9) + byteZ a),
      (.lri10 a, s.readR (s.localIdx 10) + byteZ a), (.lri11 a, s.readR (s.localIdx 11) + byteZ a),
      (.lri12 a, s.readR (s.localIdx 12) + byteZ a), (.lri13 a, s.readR (s.localIdx 13) + byteZ a),
      (.lri14 a, s.readR (s.localIdx 14) + byteZ a), (.lri15 a, s.readR (s.localIdx 15) + byteZ a) ] : List (Instr × Word)) →
    (s.admits addr = false → exec i s = .refused (.outsideLaunch addr)) ∧
    (s.admits addr = true → Memory.readWord s.mem addr = none → exec i s = .fault (.unwrittenWord addr))) ∧
  (∀ (s : State) (a : Byte) (bl br : Nibble) (i : Instr) (addr : Word),
    (i, addr) ∈ ([
      (.wb a, s.readR s.S + byteZ a), (.wsb a, s.readR (s.S - 1) + byteZ a), (.psb a, s.readR (s.S - 1) + byteZ a),
      (.wai a bl br, s.readAux br + byteZ a), (.wri a bl br, s.readR (s.localIdx br) + byteZ a),
      (.sri0 a, s.readR (s.localIdx 0) + byteZ a), (.sri1 a, s.readR (s.localIdx 1) + byteZ a),
      (.sri2 a, s.readR (s.localIdx 2) + byteZ a), (.sri3 a, s.readR (s.localIdx 3) + byteZ a),
      (.sri4 a, s.readR (s.localIdx 4) + byteZ a), (.sri5 a, s.readR (s.localIdx 5) + byteZ a),
      (.sri6 a, s.readR (s.localIdx 6) + byteZ a), (.sri7 a, s.readR (s.localIdx 7) + byteZ a),
      (.sri8 a, s.readR (s.localIdx 8) + byteZ a), (.sri9 a, s.readR (s.localIdx 9) + byteZ a),
      (.sri10 a, s.readR (s.localIdx 10) + byteZ a), (.sri11 a, s.readR (s.localIdx 11) + byteZ a),
      (.sri12 a, s.readR (s.localIdx 12) + byteZ a), (.sri13 a, s.readR (s.localIdx 13) + byteZ a),
      (.sri14 a, s.readR (s.localIdx 14) + byteZ a), (.sri15 a, s.readR (s.localIdx 15) + byteZ a) ] : List (Instr × Word)) →
    s.admits addr = false → exec i s = .refused (.outsideLaunch addr)) ∧
  (∀ (s : State) (before : List Byte) (b : Word), s.FetchReaches before → b = s.pc + BitVec.ofNat 32 before.length →
    (s.admits (wordOf b) = false → step s = .refused (.outsideLaunch (wordOf b))) ∧
    (s.admits (wordOf b) = true → b.toNat / 4 ∉ s.stored → Memory.read s.mem b.toNat = none →
      step s = .fault (.unwrittenFetch b)))

/-! ## Each instruction: the bus and the processor registers -/

/-- IOD, ION and IODA with a read command: one draw is used up and the read recorded; the answer, a free value, is
pushed (IOD), left above the top with S unmoved (ION), or replaces the address on top (IODA); nothing else changes
(R64, R165 to R168; D25, log 16, log 17). -/
def Obligations.BusReadsComplete : Prop :=
  ∀ (s : State) (a b : Byte) (i : Instr) (addr : Word) (newS j : StackIdx),
    s.cmdReads b = true → s.cmdWrites b = false →
    (i, addr, newS, j) ∈ ([
      (.iod a b, byteZ a, s.wrap (s.S + 1), s.S + 1),
      (.ion a b, byteZ a, s.S, s.S + 1),
      (.ioda a b, byteZ a + s.readR s.S, s.S, s.S) ] : List (Instr × Word × StackIdx × StackIdx)) →
    ∃ t v, exec i s = .next t ∧ v = Config.busAnswer s.draws addr (byteZ b) ∧
      t.events = .read addr (byteZ b) v :: s.events ∧ t.draws = s.draws + 1 ∧ SetsR s t j v ∧
      t.S = newS ∧ t.L = s.L ∧ t.carry = s.carry ∧ t.pc = s.pc + 3 ∧ KeepsFiles s t ∧ KeepsMemory s t ∧
      t.kernel = s.kernel ∧ t.trapsEnabled = s.trapsEnabled ∧ t.PReg = s.PReg ∧ t.CS = s.CS ∧ t.params = s.params

/-- IOD, ION and IODA with a write command: the write is recorded; IOD pops one, ION none, IODA two, its datum being
the lower element; no register, memory word or draw changes (R64, R165 to R168; D25, log 17). -/
def Obligations.BusWritesComplete : Prop :=
  ∀ (s : State) (a b : Byte) (i : Instr) (addr data : Word) (newS : StackIdx),
    s.cmdReads b = false → s.cmdWrites b = true →
    (i, addr, data, newS) ∈ ([
      (.iod a b, byteZ a, s.readR s.S, s.wrap (s.S - 1)),
      (.ion a b, byteZ a, s.readR s.S, s.S),
      (.ioda a b, byteZ a + s.readR s.S, s.readR (s.S - 1), s.wrap (s.S - 2)) ]
        : List (Instr × Word × Word × StackIdx)) →
    exec i s = .next { s with
      S := newS, pc := s.pc + 3, events := .write addr (byteZ b) data :: s.events }

/-- A command byte that is both a read and a write, or neither, is refused by IOD, ION and IODA (R89, R165; D25,
log 32). -/
def Obligations.UnclassifiedBusCommandsAreRefused : Prop :=
  ∀ (s : State) (a b : Byte) (i : Instr) (op : Byte), s.cmdReads b = s.cmdWrites b →
    (i, op) ∈ ([ (.ioda a b, 0xDC), (.iod a b, 0xDD), (.ion a b, 0xDE) ] : List (Instr × Byte)) →
    exec i s = .refused (.illegalOperands op)

/-- LIP, in either mode, pushes what the number's configuration says: the number's own word, a fixed word, or the state
it stands for, a narrower piece zero-extended and a flag as 0 or 1; where the number is unconfigured it pushes a free
value and uses up a draw; nothing else changes (R33, R140; D24, log 18). -/
def Obligations.ProcessorRegisterReadCompletes : Prop :=
  ∀ (s : State) (a : Byte),
    ((s.pregMeaning a).read = .own → ∃ t, exec (.lip a) s = .next t ∧ Pushed s t s.PReg[a.toNat] 2) ∧
    (∀ v, (s.pregMeaning a).read = .fixed v → ∃ t, exec (.lip a) s = .next t ∧ Pushed s t v 2) ∧
    (∀ (j : StackIdx) (n : Nibble) (c : Fin 12) (x : PRegTarget) (v : Word),
      (x, v) ∈ ([
        (.stackReg j, s.readR j), (.aux n, s.Aux[n.toNat]), (.const c, s.Const[c.val]),
        (.top, BitVec.ofNat 32 s.S.toNat), (.frame, BitVec.ofNat 32 s.L.toNat), (.pc, s.pc),
        (.carry, if s.carry then 1 else 0), (.field, s.Field), (.kernel, if s.kernel then 1 else 0),
        (.trapsEnabled, if s.trapsEnabled then 1 else 0) ] : List (PRegTarget × Word)) →
      (s.pregMeaning a).read = .state x → ∃ t, exec (.lip a) s = .next t ∧ Pushed s t v 2) ∧
    ((s.pregMeaning a).read = .draw → ∃ t, exec (.lip a) s = .next { t with draws := s.draws + 1 } ∧
      Pushed s t (Config.pregAnswer s.draws a) 2)

/-- SIP in kernel mode does what the number's configuration says and pops: it sets the number's own word, nothing, or
the state the number stands for (before the pop; a number that stands for `pc` sets it as a jump does); where the
number is unconfigured it is refused; in user mode it traps KernelOnly, or is refused with traps disabled (R33, R145,
R291, R323; D4, D24, D36, log 15, log 18). -/
def Obligations.ProcessorRegisterWriteIsPrivileged : Prop :=
  ∀ (s : State) (a : Byte),
    (s.kernel = true → (s.pregMeaning a).write = .own →
      exec (.sip a) s = .next { s with
        PReg := s.PReg.set a.toNat (s.readR s.S), S := s.wrap (s.S - 1), pc := s.pc + 2 }) ∧
    (s.kernel = true → (s.pregMeaning a).write = .ignore →
      exec (.sip a) s = .next { s with S := s.wrap (s.S - 1), pc := s.pc + 2 }) ∧
    (∀ j : StackIdx, s.kernel = true → (s.pregMeaning a).write = .state (.stackReg j) →
      ∃ t, exec (.sip a) s = .next t ∧ WroteR s t j (s.readR s.S) s.carry 1 2) ∧
    (∀ (n : Nibble) (c : Fin 12) (x : PRegTarget) (t : State),
      (x, t) ∈ ([
        (.aux n, { s with Aux := s.Aux.set n.toNat (s.readR s.S), S := s.wrap (s.S - 1), pc := s.pc + 2 }),
        (.const c, { s with Const := s.Const.set c.val (s.readR s.S), S := s.wrap (s.S - 1), pc := s.pc + 2 }),
        (.top, { s with S := s.wrap (s.wrap ((s.readR s.S).setWidth 8) - 1), pc := s.pc + 2 }),
        (.frame, { s with L := s.wrap ((s.readR s.S).setWidth 8), S := s.wrap (s.S - 1), pc := s.pc + 2 }),
        (.pc, { s with S := s.wrap (s.S - 1), pc := s.readR s.S }),
        (.carry, { s with carry := (s.readR s.S).getLsbD 0, S := s.wrap (s.S - 1), pc := s.pc + 2 }),
        (.field, { s with Field := s.readR s.S, S := s.wrap (s.S - 1), pc := s.pc + 2 }),
        (.kernel, { s with kernel := (s.readR s.S).getLsbD 0, S := s.wrap (s.S - 1), pc := s.pc + 2 }),
        (.trapsEnabled, { s with trapsEnabled := (s.readR s.S).getLsbD 0, S := s.wrap (s.S - 1), pc := s.pc + 2 }) ]
          : List (PRegTarget × State)) →
      s.kernel = true → (s.pregMeaning a).write = .state x → exec (.sip a) s = .next t) ∧
    (s.kernel = true → (s.pregMeaning a).write = .refuse → exec (.sip a) s = .refused (.pregUnconfigured a)) ∧
    (s.kernel = false → s.trapsEnabled = true → exec (.sip a) s = .fault (.trap .kernelOnly s.pc)) ∧
    (s.kernel = false → s.trapsEnabled = false →
      exec (.sip a) s = .refused (.trapWhileDisabled .kernelOnly))

/-! ## Each instruction: forms RR and QR -/

/-- What each source kind reads and pops (the table of R217) and what each pair number of form QR names (the table of
R221; D21, D22, log 29); and the register operations that never trap: ROR, RAND, RXOR, RVADD, RVSUB, RFU leave the
carry, RUADD and RUSUB set it to the carry or borrow out; QOR and QAND the same with the pair's Ra and Rc (R217 to
R222, R226, R228, R231, R234 to R238, R241, R245; D11, D14, D21, log 11, log 23, log 29). -/
def Obligations.PlainRegisterOperationsComplete : Prop :=
  (∀ (s : State) (n : Nibble) (c : Fin 12) (x : Src) (v : Word) (pops : StackIdx),
    (x, v, pops) ∈ ([
      (.locals n, s.readR (s.L + n.setWidth 8), 0), (.aux n, s.Aux[n.toNat], 0), (.const c, s.Const[c.val], 0),
      (.top, s.readR s.S, 0), (.below, s.readR (s.S - 1), 0), (.topPop, s.readR s.S, 1),
      (.belowPop, s.readR (s.S - 1), 1) ] : List (Src × Word × StackIdx)) →
    s.readSrc x = v ∧ srcPops x = pops) ∧
  (∀ (number : BitVec 2) (rc : Dst) (ra : Src),
    (number, rc, ra) ∈ ([ (0, .top, .top), (1, .push, .top), (2, .push, .const 0), (3, .push, .const 1) ]
      : List (BitVec 2 × Dst × Src)) →
    qrDst (decodeQrSel number) = rc ∧ qrSrc (decodeQrSel number) = ra) ∧
  (∀ (s : State) (ra rb : Src) (rc : Dst) (sel : QrSel), separateKinds ra rb rc = true →
    (∀ (i : Instr) (r : Word) (c : Bool),
      (i, r, c) ∈ ([
        (.ror ra rb rc, s.readSrc ra ||| s.readSrc rb, s.carry),
        (.rand ra rb rc, s.readSrc ra &&& s.readSrc rb, s.carry),
        (.rxor ra rb rc, s.readSrc ra ^^^ s.readSrc rb, s.carry),
        (.rvadd ra rb rc, s.readSrc ra + s.readSrc rb, s.carry),
        (.rvsub ra rb rc, s.readSrc ra - s.readSrc rb, s.carry),
        (.rfu ra rb rc, Config.fieldUnit (s.readSrc ra) (s.readSrc rb) s.Field, s.carry),
        (.ruadd ra rb rc, s.readSrc ra + s.readSrc rb + (if s.carry then 1 else 0),
          decide (2 ^ 32 ≤ (s.readSrc ra).toNat + (s.readSrc rb).toNat + (if s.carry then 1 else 0))),
        (.rusub ra rb rc, s.readSrc ra - s.readSrc rb - (if s.carry then 1 else 0),
          decide ((s.readSrc ra).toNat < (s.readSrc rb).toNat + (if s.carry then 1 else 0))) ]
            : List (Instr × Word × Bool)) →
      ∃ t, exec i s = .next t ∧ RegisterResult s t rc (srcPops ra + srcPops rb) r c 3) ∧
    (∀ (i : Instr) (r : Word),
      (i, r) ∈ ([
        (.qor sel rb, s.readSrc (qrSrc sel) ||| s.readSrc rb),
        (.qand sel rb, s.readSrc (qrSrc sel) &&& s.readSrc rb) ] : List (Instr × Word)) →
      ∃ t, exec i s = .next t ∧ RegisterResult s t (qrDst sel) (srcPops rb) r s.carry 2))

/-- RADD, RSUB, QADD and QSUB, when the exact signed result with the carry fits a word: the destination gets that exact
number and the carry is 0 (R217 to R222, R225, R233, R240, R247; D8, D21, log 23, log 29). -/
def Obligations.RegisterAddAndSubtractComplete : Prop :=
  ∀ (s : State) (ra rb : Src) (rc : Dst) (sel : QrSel) (i : Instr) (z : Int) (dst : Dst) (pops : StackIdx) (len : Nat),
    separateKinds ra rb rc = true →
    (i, z, dst, pops, len) ∈ ([
      (.radd ra rb rc, (s.readSrc ra).toInt + (s.readSrc rb).toInt + (if s.carry then 1 else 0),
        rc, srcPops ra + srcPops rb, 3),
      (.rsub ra rb rc, (s.readSrc ra).toInt - (s.readSrc rb).toInt - (if s.carry then 1 else 0),
        rc, srcPops ra + srcPops rb, 3),
      (.qadd sel rb, (s.readSrc (qrSrc sel)).toInt + (s.readSrc rb).toInt + (if s.carry then 1 else 0),
        qrDst sel, srcPops rb, 2),
      (.qsub sel rb, (s.readSrc (qrSrc sel)).toInt - (s.readSrc rb).toInt - (if s.carry then 1 else 0),
        qrDst sel, srcPops rb, 2) ] : List (Instr × Int × Dst × StackIdx × Nat)) →
    -(2 ^ 31) ≤ z → z ≤ 2 ^ 31 - 1 →
    ∃ t r, exec i s = .next t ∧ r.toInt = z ∧ RegisterResult s t dst pops r false len

/-- RLADD, RLSUB, QLADD and QLSUB: when the launch's predicate Lisp NaN does not hold of the operands and the result,
the destination gets the wrapped result without the carry and the carry is 0; when it holds, the trap LispNaN, or with
traps disabled the refusal (R14, R217, R218, R219, R221, R222, R229, R230, R243, R244, R291; D13, D21, D31, log 12,
log 15, log 29). -/
def Obligations.RegisterLispArithmetic : Prop :=
  ∀ (s : State) (ra rb : Src) (rc : Dst) (sel : QrSel) (i : Instr) (x y r : Word) (dst : Dst) (pops : StackIdx)
    (len : Nat),
    separateKinds ra rb rc = true →
    (i, x, y, r, dst, pops, len) ∈ ([
      (.rladd ra rb rc, s.readSrc ra, s.readSrc rb, s.readSrc ra + s.readSrc rb, rc, srcPops ra + srcPops rb, 3),
      (.rlsub ra rb rc, s.readSrc ra, s.readSrc rb, s.readSrc ra - s.readSrc rb, rc, srcPops ra + srcPops rb, 3),
      (.qladd sel rb, s.readSrc (qrSrc sel), s.readSrc rb, s.readSrc (qrSrc sel) + s.readSrc rb,
        qrDst sel, srcPops rb, 2),
      (.qlsub sel rb, s.readSrc (qrSrc sel), s.readSrc rb, s.readSrc (qrSrc sel) - s.readSrc rb,
        qrDst sel, srcPops rb, 2) ] : List (Instr × Word × Word × Word × Dst × StackIdx × Nat)) →
    ((x, y, r) ∉ s.params.lispNaN → ∃ t, exec i s = .next t ∧ RegisterResult s t dst pops r false len) ∧
    ((x, y, r) ∈ s.params.lispNaN →
      (s.trapsEnabled = true → exec i s = .fault (.trap .lispNaN s.pc)) ∧
      (s.trapsEnabled = false → exec i s = .refused (.trapWhileDisabled .lispNaN)))

/-- RBC and QBC move Ra to the destination when it is below Rb, unsigned, and else trap BoundsCheck, or with traps
disabled are refused; RRX and QRX load the word at Ra + Rb, read before the destination is written (R15, R217, R218,
R219, R220, R221, R222, R227, R232, R242, R246, R291; D6, D21, D31, log 15, log 25, log 29). -/
def Obligations.RegisterBoundsChecksAndLoads : Prop :=
  ∀ (s : State) (ra rb : Src) (rc : Dst) (sel : QrSel), separateKinds ra rb rc = true →
    ((s.readSrc ra).toNat < (s.readSrc rb).toNat → ∃ t, exec (.rbc ra rb rc) s = .next t ∧
      RegisterResult s t rc (srcPops ra + srcPops rb) (s.readSrc ra) s.carry 3) ∧
    ((s.readSrc (qrSrc sel)).toNat < (s.readSrc rb).toNat → ∃ t, exec (.qbc sel rb) s = .next t ∧
      RegisterResult s t (qrDst sel) (srcPops rb) (s.readSrc (qrSrc sel)) s.carry 2) ∧
    ((s.readSrc rb).toNat ≤ (s.readSrc ra).toNat →
      (s.trapsEnabled = true → exec (.rbc ra rb rc) s = .fault (.trap .boundsCheck s.pc)) ∧
      (s.trapsEnabled = false → exec (.rbc ra rb rc) s = .refused (.trapWhileDisabled .boundsCheck))) ∧
    ((s.readSrc rb).toNat ≤ (s.readSrc (qrSrc sel)).toNat →
      (s.trapsEnabled = true → exec (.qbc sel rb) s = .fault (.trap .boundsCheck s.pc)) ∧
      (s.trapsEnabled = false → exec (.qbc sel rb) s = .refused (.trapWhileDisabled .boundsCheck))) ∧
    (∀ m, s.Holds (s.readSrc ra + s.readSrc rb) m → ∃ t, exec (.rrx ra rb rc) s = .next t ∧
      RegisterResult s t rc (srcPops ra + srcPops rb) m s.carry 3) ∧
    (∀ m, s.Holds (s.readSrc (qrSrc sel) + s.readSrc rb) m → ∃ t, exec (.qrx sel rb) s = .next t ∧
      RegisterResult s t (qrDst sel) (srcPops rb) m s.carry 2)

/-- With both top elements popped and the result pushed, and RC_BASE post_pop, RADD leaves what ADD leaves but for the
two more bytes of pc, and traps where it traps (R101, R218, R225; D21, log 29). -/
def Obligations.RegisterAddOnTheStackIsAdd : Prop :=
  ∀ s : State, s.params.rcBase = .postPop →
    (∀ t, exec .add s = .next t →
      exec (.radd .topPop .belowPop .push) s = .next { t with pc := s.pc + 3 }) ∧
    (∀ f, exec .add s = .fault f → exec (.radd .topPop .belowPop .push) s = .fault f)

/-- A form RR instruction that mixes Locals and AuxRegs is refused, whatever the operation (R89, R216; D22, log 32). -/
def Obligations.MixedRegisterKindsAreRefused : Prop :=
  ∀ (s : State) (ra rb : Src) (rc : Dst) (i : Instr) (op : Byte), separateKinds ra rb rc = false →
    (i, op) ∈ ([
      (.ror ra rb rc, 0xC0), (.rand ra rb rc, 0xC1), (.rrx ra rb rc, 0xC2), (.rbc ra rb rc, 0xC3),
      (.radd ra rb rc, 0xC4), (.rsub ra rb rc, 0xC5), (.rladd ra rb rc, 0xC6), (.rlsub ra rb rc, 0xC7),
      (.rxor ra rb rc, 0xC8), (.rfu ra rb rc, 0xCA), (.rvadd ra rb rc, 0xCC), (.rvsub ra rb rc, 0xCD),
      (.ruadd ra rb rc, 0xCE), (.rusub ra rb rc, 0xCF) ] : List (Instr × Byte)) →
    exec i s = .refused (.illegalOperands op)

/-! ## Xop and reserved opcodes -/

/-- The 74 xop opcodes with traps enabled and the launch continuing them, room on the link stack: the link to the byte
after the instruction with L, pc from InstTrap of the opcode, the mode bits unchanged, nothing else (R276, R278; D18,
log 13, log 14: a continuation the spec marks as optional). -/
def Obligations.XopContinuesAtItsHandler : Prop :=
  ∀ (s : State) (a b g d : Byte) (i : Instr) (op : Byte) (len : Nat) (operands : List Byte),
    s.trapsEnabled = true → s.params.xopContinues = true → s.csFull = false →
    (i, op, len, operands) ∈ xopTable a b g d →
    ∃ t, exec i s = .next t ∧ Called s t (s.params.instTrap[op.toNat]'op.isLt) len s.S s.kernel s.trapsEnabled

/-- The 74 xop opcodes where the launch does not continue them: the terminal trap Xop with the opcode and its operand
bytes at its own address; with traps disabled the refusal, continued or not (R275, R280, R291; D9, D18, D31,
log 14, log 15). -/
def Obligations.XopTrapsWithItsOperandBytes : Prop :=
  ∀ (s : State) (a b g d : Byte) (i : Instr) (op : Byte) (len : Nat) (operands : List Byte),
    (i, op, len, operands) ∈ xopTable a b g d →
    (s.trapsEnabled = true → s.params.xopContinues = false →
      exec i s = .fault (.trap (.xop op operands) s.pc)) ∧
    (s.trapsEnabled = false → exec i s = .refused (.trapWhileDisabled (.xop op operands)))

/-- The seven reserved opcodes are refused in every state, never taken as xop (R277; D26, log 32). -/
def Obligations.ReservedOpcodesAreRefused : Prop :=
  ∀ (s : State) (a b : Byte) (i : Instr) (op : Byte),
    (i, op) ∈ ([
      (.reservedC9 a b, 0xC9), (.reservedCB a b, 0xCB), (.reservedDF a b, 0xDF), (.reservedE0 a b, 0xE0),
      (.reservedE4 a b, 0xE4), (.reservedE8 a b, 0xE8), (.reservedEC a b, 0xEC) ] : List (Instr × Byte)) →
    exec i s = .refused (.reserved op)

/-- SFC, DFC, LFC, KFC, SFCI (its pointer word admitted and holding a value) and, where the launch continues xops and
traps are enabled, the 74 xop instructions are refused on a full link stack (R34, R118, R276; D18, D35, log 14,
log 22). -/
def Obligations.CallsOnAFullLinkStackAreRefused : Prop :=
  ∀ (s : State) (n : Nat) (a b g d : Byte) (i : Instr), s.params.csDepth = some n → n ≤ s.CS.length →
    (i ∈ ([ .sfc, .dfc a b g d, .lfc a b, .kfc ] : List Instr) → exec i s = .refused .linkStackFull) ∧
    (∀ v, s.Holds (s.readR s.S) v → exec .sfci s = .refused .linkStackFull) ∧
    (∀ (op : Byte) (len : Nat) (operands : List Byte), s.trapsEnabled = true → s.params.xopContinues = true →
      (i, op, len, operands) ∈ xopTable a b g d → exec i s = .refused .linkStackFull)
end

