-- ==== Sys2Proof/Laws/Decode.lean ====
section
/-! SUPPORT. What the decoder can do: from an answer back to the cell of the map that gave it, and forward. -/
namespace Sys2Proof

/-- With enough bytes for the opcode's length, the decoder answers what the opcode's cell makes of them. -/
theorem decode_of_cell {c : Specifiers} {op : Byte} {rest : List Byte} {i : Instr}
    (hl : lengthOf op ≤ rest.length + 1)
    (h : cellOf op c (rest.getD 0 0) (rest.getD 1 0) (rest.getD 2 0) (rest.getD 3 0) = some i) :
    decode c (op :: rest) = .instr i := by
  simp only [decode]
  rw [if_neg (by omega), h]

/-- An answered instruction came from the opcode's cell, with enough bytes. -/
theorem decode_instr {c : Specifiers} {bytes : List Byte} {i : Instr} (h : decode c bytes = .instr i) :
    ∃ op rest, bytes = op :: rest ∧ lengthOf op ≤ rest.length + 1 ∧
      cellOf op c (rest.getD 0 0) (rest.getD 1 0) (rest.getD 2 0) (rest.getD 3 0) = some i := by
  unfold decode at h
  split at h
  · cases h
  · rename_i op rest
    split at h
    · cases h
    · rename_i hl
      split at h
      · rename_i j e
        exact ⟨op, rest, rfl, by omega, e.trans (congrArg some (Decoded.instr.inj h))⟩
      · cases h

/-- A table answers only what it lists. -/
theorem lookupOperands_mem {α β : Type} [DecidableEq α] {entries : List (α × β)} {bytes : α} {x : β}
    (h : lookupOperands entries bytes = some x) : (bytes, x) ∈ entries := by
  induction entries with
  | nil => cases h
  | cons e entries ih =>
    obtain ⟨b, y⟩ := e
    unfold lookupOperands at h
    split at h
    · rename_i e
      cases e
      cases h
      exact List.mem_cons_self
    · exact List.mem_cons_of_mem _ (ih h)

/-- The operands form RR is given keep Locals and AuxRegs apart, whatever the launch's decoder (R216). -/
theorem decodeRR_separate {c : Specifiers} {alpha beta : Byte} {ra rb : Src} {rc : Dst}
    (h : decodeRR c alpha beta = some (ra, rb, rc)) : separateKinds ra rb rc = true := by
  unfold decodeRR at h
  split at h
  · split at h
    · rename_i hs
      cases h
      exact hs
    · cases h
  · cases h

end Sys2Proof
end

