-- ==== Sys2Proof/Laws/Memory.lean ====
section
/-! SUPPORT. Memory: read after write, and every memory operation keeps the canonical form. -/
namespace Sys2Proof.Machine

@[simp] theorem Memory.read_nil (a : Nat) : Memory.read [] a = none := rfl

theorem Memory.read_cons (b : Nat) (v : Byte) (m : Memory) (a : Nat) :
    Memory.read ((b, v) :: m) a = if a = b then some v else Memory.read m a := rfl

/-- A byte read where it was written is the byte written. -/
@[simp] theorem Memory.read_write_same (m : Memory) (a : Nat) (v : Byte) :
    Memory.read (Memory.write m a v) a = some v := by
  induction m with
  | nil => simp [Memory.write, Memory.read]
  | cons c m ih =>
    obtain ⟨b, w⟩ := c
    unfold Memory.write
    split
    · simp [Memory.read]
    · split
      · simp [Memory.read]
      · rename_i h
        simp [Memory.read, h, ih]

/-- A write leaves every other byte alone. -/
theorem Memory.read_write_other (m : Memory) (a c : Nat) (v : Byte) (h : c ≠ a) :
    Memory.read (Memory.write m a v) c = Memory.read m c := by
  induction m with
  | nil => simp [Memory.write, Memory.read, h]
  | cons e m ih =>
    obtain ⟨b, w⟩ := e
    unfold Memory.write
    split
    · simp [Memory.read, h]
    · split
      · rename_i e
        subst e
        simp [Memory.read, h]
      · simp [Memory.read, ih]

theorem Memory.read_write (m : Memory) (a c : Nat) (v : Byte) :
    Memory.read (Memory.write m a v) c = if c = a then some v else Memory.read m c := by
  by_cases h : c = a
  · simp [h]
  · simp [h, Memory.read_write_other m a c v h]

/-- A byte of memory after a word is stored: one of the four new bytes, else as before (R51, R53). -/
theorem Memory.read_writeWord (m : Memory) (a v : Word) (c : Nat) :
    Memory.read (Memory.writeWord m a v) c =
      if c = 4 * a.toNat + 3 then some (v.extractLsb' 0 8)
      else if c = 4 * a.toNat + 2 then some (v.extractLsb' 8 8)
      else if c = 4 * a.toNat + 1 then some (v.extractLsb' 16 8)
      else if c = 4 * a.toNat then some (v.extractLsb' 24 8)
      else Memory.read m c := by
  simp only [Memory.writeWord, Memory.read_write]

/-! ## The canonical form -/

theorem Memory.risesAbove_write (m : Memory) (lo a : Nat) (v : Byte) (hlo : lo < a)
    (h : Memory.risesAbove lo m = true) : Memory.risesAbove lo (Memory.write m a v) = true := by
  induction m generalizing lo with
  | nil => simp [Memory.write, Memory.risesAbove, hlo]
  | cons c m ih =>
    obtain ⟨b, w⟩ := c
    simp only [Memory.risesAbove, Bool.and_eq_true, decide_eq_true_eq] at h
    unfold Memory.write
    split
    · rename_i hab
      simp [Memory.risesAbove, hlo, hab, h.2]
    · split
      · rename_i e
        subst e
        simp [Memory.risesAbove, h.1, h.2]
      · simp only [Memory.risesAbove, Bool.and_eq_true, decide_eq_true_eq]
        exact ⟨h.1, ih b (by omega) h.2⟩

theorem Memory.all_write (m : Memory) (a : Nat) (v : Byte) (ha : a < 2 ^ 34)
    (h : m.all (fun c => decide (c.1 < 2 ^ 34)) = true) :
    (Memory.write m a v).all (fun c => decide (c.1 < 2 ^ 34)) = true := by
  induction m with
  | nil => simpa [Memory.write] using ha
  | cons c m ih =>
    obtain ⟨b, w⟩ := c
    simp only [List.all_cons, Bool.and_eq_true, decide_eq_true_eq] at h
    unfold Memory.write
    split
    · simp only [List.all_cons, Bool.and_eq_true, decide_eq_true_eq]
      exact ⟨ha, h⟩
    · split
      · simp only [List.all_cons, Bool.and_eq_true, decide_eq_true_eq]
        exact ⟨ha, h.2⟩
      · simp only [List.all_cons, Bool.and_eq_true, decide_eq_true_eq]
        exact ⟨h.1, ih h.2⟩

theorem Memory.rises_write (m : Memory) (a : Nat) (v : Byte) (h : Memory.rises m = true) :
    Memory.rises (Memory.write m a v) = true := by
  cases m with
  | nil => rfl
  | cons c m =>
    obtain ⟨b, w⟩ := c
    simp only [Memory.rises] at h
    by_cases hab : a < b
    · simp [Memory.write, hab, Memory.rises, Memory.risesAbove, h]
    · by_cases e : a = b
      · simp [Memory.write, e, Memory.rises, h]
      · simpa [Memory.write, hab, e, Memory.rises] using Memory.risesAbove_write m b a v (by omega) h

/-- Writing a byte of one of the 2^32 words keeps the canonical form. -/
theorem Memory.wf_write (m : Memory) (a : Nat) (v : Byte) (ha : a < 2 ^ 34) (h : Memory.wf m = true) :
    Memory.wf (Memory.write m a v) = true := by
  simp only [Memory.wf, Bool.and_eq_true] at h ⊢
  exact ⟨Memory.rises_write m a v h.1, Memory.all_write m a v ha h.2⟩

/-- Storing a word keeps the canonical form. -/
theorem Memory.wf_writeWord (m : Memory) (a v : Word) (h : Memory.wf m = true) :
    Memory.wf (Memory.writeWord m a v) = true := by
  have ha : a.toNat < 2 ^ 32 := a.isLt
  unfold Memory.writeWord
  exact Memory.wf_write _ _ _ (by omega) (Memory.wf_write _ _ _ (by omega)
    (Memory.wf_write _ _ _ (by omega) (Memory.wf_write _ _ _ (by omega) h)))

/-- Nothing listed is canonical. -/
theorem Memory.wf_nil : Memory.wf [] = true := rfl

/-! ## The stored set -/

theorem mem_insertRising (l : List Nat) (a b : Nat) : b ∈ insertRising l a ↔ b = a ∨ b ∈ l := by
  induction l with
  | nil => simp [insertRising]
  | cons c l ih =>
    unfold insertRising
    split
    · simp
    · split
      · rename_i e
        subst e
        simp
      · simp [ih, or_left_comm]

theorem natsRiseAbove_insertRising (l : List Nat) (lo a : Nat) (hlo : lo < a)
    (h : natsRiseAbove lo l = true) : natsRiseAbove lo (insertRising l a) = true := by
  induction l generalizing lo with
  | nil => simp [insertRising, natsRiseAbove, hlo]
  | cons b l ih =>
    simp only [natsRiseAbove, Bool.and_eq_true, decide_eq_true_eq] at h
    unfold insertRising
    split
    · rename_i hab
      simp [natsRiseAbove, hlo, hab, h.2]
    · split
      · simp [natsRiseAbove, h.1, h.2]
      · simp only [natsRiseAbove, Bool.and_eq_true, decide_eq_true_eq]
        exact ⟨h.1, ih b (by omega) h.2⟩

/-- Adding a word keeps the stored set strictly rising. -/
theorem natsRise_insertRising (l : List Nat) (a : Nat) (h : natsRise l = true) :
    natsRise (insertRising l a) = true := by
  cases l with
  | nil => simp [insertRising, natsRise, natsRiseAbove]
  | cons b l =>
    simp only [natsRise] at h
    unfold insertRising
    split
    · rename_i hab
      simp [natsRise, natsRiseAbove, hab, h]
    · split
      · simpa [natsRise] using h
      · simp only [natsRise]
        exact natsRiseAbove_insertRising l b a (by omega) h

end Sys2Proof.Machine
end

