-- ==== Sys2Proof/Laws/State.lean ====
section
/-! SUPPORT. One lemma for each field of State under each update, and what reading registers gives after an
update, so that no proof unfolds a record update. -/
namespace Sys2Proof.Machine

@[simp] theorem State.writeR_R (s : State) (i : StackIdx) (v : Word) : (s.writeR i v).R = s.R.set (s.wrap i).toNat v := rfl
@[simp] theorem State.writeR_S (s : State) (i : StackIdx) (v : Word) : (s.writeR i v).S = s.S := rfl
@[simp] theorem State.writeR_L (s : State) (i : StackIdx) (v : Word) : (s.writeR i v).L = s.L := rfl
@[simp] theorem State.writeR_Aux (s : State) (i : StackIdx) (v : Word) : (s.writeR i v).Aux = s.Aux := rfl
@[simp] theorem State.writeR_Const (s : State) (i : StackIdx) (v : Word) : (s.writeR i v).Const = s.Const := rfl
@[simp] theorem State.writeR_carry (s : State) (i : StackIdx) (v : Word) : (s.writeR i v).carry = s.carry := rfl
@[simp] theorem State.writeR_Field (s : State) (i : StackIdx) (v : Word) : (s.writeR i v).Field = s.Field := rfl
@[simp] theorem State.writeR_pc (s : State) (i : StackIdx) (v : Word) : (s.writeR i v).pc = s.pc := rfl
@[simp] theorem State.writeR_kernel (s : State) (i : StackIdx) (v : Word) : (s.writeR i v).kernel = s.kernel := rfl
@[simp] theorem State.writeR_trapsEnabled (s : State) (i : StackIdx) (v : Word) : (s.writeR i v).trapsEnabled = s.trapsEnabled := rfl
@[simp] theorem State.writeR_PReg (s : State) (i : StackIdx) (v : Word) : (s.writeR i v).PReg = s.PReg := rfl
@[simp] theorem State.writeR_CS (s : State) (i : StackIdx) (v : Word) : (s.writeR i v).CS = s.CS := rfl
@[simp] theorem State.writeR_mem (s : State) (i : StackIdx) (v : Word) : (s.writeR i v).mem = s.mem := rfl
@[simp] theorem State.writeR_events (s : State) (i : StackIdx) (v : Word) : (s.writeR i v).events = s.events := rfl
@[simp] theorem State.writeR_stored (s : State) (i : StackIdx) (v : Word) : (s.writeR i v).stored = s.stored := rfl
@[simp] theorem State.writeR_draws (s : State) (i : StackIdx) (v : Word) : (s.writeR i v).draws = s.draws := rfl
@[simp] theorem State.writeR_params (s : State) (i : StackIdx) (v : Word) : (s.writeR i v).params = s.params := rfl
@[simp] theorem State.writeR_nstack (s : State) (i : StackIdx) (v : Word) : (s.writeR i v).nstack = s.nstack := rfl
@[simp] theorem State.writeR_wrap (s : State) (i : StackIdx) (v : Word) (j : StackIdx) : (s.writeR i v).wrap j = s.wrap j := rfl
@[simp] theorem State.writeR_localIdx (s : State) (i : StackIdx) (v : Word) (m : Nibble) : (s.writeR i v).localIdx m = s.localIdx m := rfl
@[simp] theorem State.writeR_readAux (s : State) (i : StackIdx) (v : Word) (m : Nibble) : (s.writeR i v).readAux m = s.readAux m := rfl
@[simp] theorem State.writeR_readConst (s : State) (i : StackIdx) (v : Word) (m : Fin 12) : (s.writeR i v).readConst m = s.readConst m := rfl
@[simp] theorem State.writeR_admits (s : State) (i : StackIdx) (v : Word) (b : Word) : (s.writeR i v).admits b = s.admits b := rfl
@[simp] theorem State.writeR_pregMeaning (s : State) (i : StackIdx) (v : Word) (k : Byte) : (s.writeR i v).pregMeaning k = s.pregMeaning k := rfl

@[simp] theorem State.setS_R (s : State) (i : StackIdx) : (s.setS i).R = s.R := rfl
@[simp] theorem State.setS_S (s : State) (i : StackIdx) : (s.setS i).S = s.wrap i := rfl
@[simp] theorem State.setS_L (s : State) (i : StackIdx) : (s.setS i).L = s.L := rfl
@[simp] theorem State.setS_Aux (s : State) (i : StackIdx) : (s.setS i).Aux = s.Aux := rfl
@[simp] theorem State.setS_Const (s : State) (i : StackIdx) : (s.setS i).Const = s.Const := rfl
@[simp] theorem State.setS_carry (s : State) (i : StackIdx) : (s.setS i).carry = s.carry := rfl
@[simp] theorem State.setS_Field (s : State) (i : StackIdx) : (s.setS i).Field = s.Field := rfl
@[simp] theorem State.setS_pc (s : State) (i : StackIdx) : (s.setS i).pc = s.pc := rfl
@[simp] theorem State.setS_kernel (s : State) (i : StackIdx) : (s.setS i).kernel = s.kernel := rfl
@[simp] theorem State.setS_trapsEnabled (s : State) (i : StackIdx) : (s.setS i).trapsEnabled = s.trapsEnabled := rfl
@[simp] theorem State.setS_PReg (s : State) (i : StackIdx) : (s.setS i).PReg = s.PReg := rfl
@[simp] theorem State.setS_CS (s : State) (i : StackIdx) : (s.setS i).CS = s.CS := rfl
@[simp] theorem State.setS_mem (s : State) (i : StackIdx) : (s.setS i).mem = s.mem := rfl
@[simp] theorem State.setS_events (s : State) (i : StackIdx) : (s.setS i).events = s.events := rfl
@[simp] theorem State.setS_stored (s : State) (i : StackIdx) : (s.setS i).stored = s.stored := rfl
@[simp] theorem State.setS_draws (s : State) (i : StackIdx) : (s.setS i).draws = s.draws := rfl
@[simp] theorem State.setS_params (s : State) (i : StackIdx) : (s.setS i).params = s.params := rfl
@[simp] theorem State.setS_nstack (s : State) (i : StackIdx) : (s.setS i).nstack = s.nstack := rfl
@[simp] theorem State.setS_wrap (s : State) (i : StackIdx) (j : StackIdx) : (s.setS i).wrap j = s.wrap j := rfl
@[simp] theorem State.setS_localIdx (s : State) (i : StackIdx) (m : Nibble) : (s.setS i).localIdx m = s.localIdx m := rfl
@[simp] theorem State.setS_readR (s : State) (i : StackIdx) (j : StackIdx) : (s.setS i).readR j = s.readR j := rfl
@[simp] theorem State.setS_readAux (s : State) (i : StackIdx) (m : Nibble) : (s.setS i).readAux m = s.readAux m := rfl
@[simp] theorem State.setS_readConst (s : State) (i : StackIdx) (m : Fin 12) : (s.setS i).readConst m = s.readConst m := rfl
@[simp] theorem State.setS_admits (s : State) (i : StackIdx) (b : Word) : (s.setS i).admits b = s.admits b := rfl
@[simp] theorem State.setS_pregMeaning (s : State) (i : StackIdx) (k : Byte) : (s.setS i).pregMeaning k = s.pregMeaning k := rfl

@[simp] theorem State.setL_R (s : State) (i : StackIdx) : (s.setL i).R = s.R := rfl
@[simp] theorem State.setL_S (s : State) (i : StackIdx) : (s.setL i).S = s.S := rfl
@[simp] theorem State.setL_L (s : State) (i : StackIdx) : (s.setL i).L = s.wrap i := rfl
@[simp] theorem State.setL_Aux (s : State) (i : StackIdx) : (s.setL i).Aux = s.Aux := rfl
@[simp] theorem State.setL_Const (s : State) (i : StackIdx) : (s.setL i).Const = s.Const := rfl
@[simp] theorem State.setL_carry (s : State) (i : StackIdx) : (s.setL i).carry = s.carry := rfl
@[simp] theorem State.setL_Field (s : State) (i : StackIdx) : (s.setL i).Field = s.Field := rfl
@[simp] theorem State.setL_pc (s : State) (i : StackIdx) : (s.setL i).pc = s.pc := rfl
@[simp] theorem State.setL_kernel (s : State) (i : StackIdx) : (s.setL i).kernel = s.kernel := rfl
@[simp] theorem State.setL_trapsEnabled (s : State) (i : StackIdx) : (s.setL i).trapsEnabled = s.trapsEnabled := rfl
@[simp] theorem State.setL_PReg (s : State) (i : StackIdx) : (s.setL i).PReg = s.PReg := rfl
@[simp] theorem State.setL_CS (s : State) (i : StackIdx) : (s.setL i).CS = s.CS := rfl
@[simp] theorem State.setL_mem (s : State) (i : StackIdx) : (s.setL i).mem = s.mem := rfl
@[simp] theorem State.setL_events (s : State) (i : StackIdx) : (s.setL i).events = s.events := rfl
@[simp] theorem State.setL_stored (s : State) (i : StackIdx) : (s.setL i).stored = s.stored := rfl
@[simp] theorem State.setL_draws (s : State) (i : StackIdx) : (s.setL i).draws = s.draws := rfl
@[simp] theorem State.setL_params (s : State) (i : StackIdx) : (s.setL i).params = s.params := rfl
@[simp] theorem State.setL_nstack (s : State) (i : StackIdx) : (s.setL i).nstack = s.nstack := rfl
@[simp] theorem State.setL_wrap (s : State) (i : StackIdx) (j : StackIdx) : (s.setL i).wrap j = s.wrap j := rfl
@[simp] theorem State.setL_readR (s : State) (i : StackIdx) (j : StackIdx) : (s.setL i).readR j = s.readR j := rfl
@[simp] theorem State.setL_readAux (s : State) (i : StackIdx) (m : Nibble) : (s.setL i).readAux m = s.readAux m := rfl
@[simp] theorem State.setL_readConst (s : State) (i : StackIdx) (m : Fin 12) : (s.setL i).readConst m = s.readConst m := rfl
@[simp] theorem State.setL_admits (s : State) (i : StackIdx) (b : Word) : (s.setL i).admits b = s.admits b := rfl
@[simp] theorem State.setL_pregMeaning (s : State) (i : StackIdx) (k : Byte) : (s.setL i).pregMeaning k = s.pregMeaning k := rfl

@[simp] theorem State.push_R (s : State) (v : Word) : (s.push v).R = s.R.set (s.wrap (s.S + 1)).toNat v := rfl
@[simp] theorem State.push_S (s : State) (v : Word) : (s.push v).S = s.wrap (s.S + 1) := rfl
@[simp] theorem State.push_L (s : State) (v : Word) : (s.push v).L = s.L := rfl
@[simp] theorem State.push_Aux (s : State) (v : Word) : (s.push v).Aux = s.Aux := rfl
@[simp] theorem State.push_Const (s : State) (v : Word) : (s.push v).Const = s.Const := rfl
@[simp] theorem State.push_carry (s : State) (v : Word) : (s.push v).carry = s.carry := rfl
@[simp] theorem State.push_Field (s : State) (v : Word) : (s.push v).Field = s.Field := rfl
@[simp] theorem State.push_pc (s : State) (v : Word) : (s.push v).pc = s.pc := rfl
@[simp] theorem State.push_kernel (s : State) (v : Word) : (s.push v).kernel = s.kernel := rfl
@[simp] theorem State.push_trapsEnabled (s : State) (v : Word) : (s.push v).trapsEnabled = s.trapsEnabled := rfl
@[simp] theorem State.push_PReg (s : State) (v : Word) : (s.push v).PReg = s.PReg := rfl
@[simp] theorem State.push_CS (s : State) (v : Word) : (s.push v).CS = s.CS := rfl
@[simp] theorem State.push_mem (s : State) (v : Word) : (s.push v).mem = s.mem := rfl
@[simp] theorem State.push_events (s : State) (v : Word) : (s.push v).events = s.events := rfl
@[simp] theorem State.push_stored (s : State) (v : Word) : (s.push v).stored = s.stored := rfl
@[simp] theorem State.push_draws (s : State) (v : Word) : (s.push v).draws = s.draws := rfl
@[simp] theorem State.push_params (s : State) (v : Word) : (s.push v).params = s.params := rfl
@[simp] theorem State.push_nstack (s : State) (v : Word) : (s.push v).nstack = s.nstack := rfl
@[simp] theorem State.push_wrap (s : State) (v : Word) (j : StackIdx) : (s.push v).wrap j = s.wrap j := rfl
@[simp] theorem State.push_localIdx (s : State) (v : Word) (m : Nibble) : (s.push v).localIdx m = s.localIdx m := rfl
@[simp] theorem State.push_readAux (s : State) (v : Word) (m : Nibble) : (s.push v).readAux m = s.readAux m := rfl
@[simp] theorem State.push_readConst (s : State) (v : Word) (m : Fin 12) : (s.push v).readConst m = s.readConst m := rfl
@[simp] theorem State.push_admits (s : State) (v : Word) (b : Word) : (s.push v).admits b = s.admits b := rfl
@[simp] theorem State.push_pregMeaning (s : State) (v : Word) (k : Byte) : (s.push v).pregMeaning k = s.pregMeaning k := rfl

@[simp] theorem State.pop_R (s : State) (n : StackIdx) : (s.pop n).R = s.R := rfl
@[simp] theorem State.pop_S (s : State) (n : StackIdx) : (s.pop n).S = s.wrap (s.S - n) := rfl
@[simp] theorem State.pop_L (s : State) (n : StackIdx) : (s.pop n).L = s.L := rfl
@[simp] theorem State.pop_Aux (s : State) (n : StackIdx) : (s.pop n).Aux = s.Aux := rfl
@[simp] theorem State.pop_Const (s : State) (n : StackIdx) : (s.pop n).Const = s.Const := rfl
@[simp] theorem State.pop_carry (s : State) (n : StackIdx) : (s.pop n).carry = s.carry := rfl
@[simp] theorem State.pop_Field (s : State) (n : StackIdx) : (s.pop n).Field = s.Field := rfl
@[simp] theorem State.pop_pc (s : State) (n : StackIdx) : (s.pop n).pc = s.pc := rfl
@[simp] theorem State.pop_kernel (s : State) (n : StackIdx) : (s.pop n).kernel = s.kernel := rfl
@[simp] theorem State.pop_trapsEnabled (s : State) (n : StackIdx) : (s.pop n).trapsEnabled = s.trapsEnabled := rfl
@[simp] theorem State.pop_PReg (s : State) (n : StackIdx) : (s.pop n).PReg = s.PReg := rfl
@[simp] theorem State.pop_CS (s : State) (n : StackIdx) : (s.pop n).CS = s.CS := rfl
@[simp] theorem State.pop_mem (s : State) (n : StackIdx) : (s.pop n).mem = s.mem := rfl
@[simp] theorem State.pop_events (s : State) (n : StackIdx) : (s.pop n).events = s.events := rfl
@[simp] theorem State.pop_stored (s : State) (n : StackIdx) : (s.pop n).stored = s.stored := rfl
@[simp] theorem State.pop_draws (s : State) (n : StackIdx) : (s.pop n).draws = s.draws := rfl
@[simp] theorem State.pop_params (s : State) (n : StackIdx) : (s.pop n).params = s.params := rfl
@[simp] theorem State.pop_nstack (s : State) (n : StackIdx) : (s.pop n).nstack = s.nstack := rfl
@[simp] theorem State.pop_wrap (s : State) (n : StackIdx) (j : StackIdx) : (s.pop n).wrap j = s.wrap j := rfl
@[simp] theorem State.pop_localIdx (s : State) (n : StackIdx) (m : Nibble) : (s.pop n).localIdx m = s.localIdx m := rfl
@[simp] theorem State.pop_readR (s : State) (n : StackIdx) (j : StackIdx) : (s.pop n).readR j = s.readR j := rfl
@[simp] theorem State.pop_readAux (s : State) (n : StackIdx) (m : Nibble) : (s.pop n).readAux m = s.readAux m := rfl
@[simp] theorem State.pop_readConst (s : State) (n : StackIdx) (m : Fin 12) : (s.pop n).readConst m = s.readConst m := rfl
@[simp] theorem State.pop_admits (s : State) (n : StackIdx) (b : Word) : (s.pop n).admits b = s.admits b := rfl
@[simp] theorem State.pop_pregMeaning (s : State) (n : StackIdx) (k : Byte) : (s.pop n).pregMeaning k = s.pregMeaning k := rfl

@[simp] theorem State.replaceTwo_R (s : State) (v : Word) : (s.replaceTwo v).R = s.R.set (s.wrap (s.S - 1)).toNat v := rfl
@[simp] theorem State.replaceTwo_S (s : State) (v : Word) : (s.replaceTwo v).S = s.wrap (s.S - 1) := rfl
@[simp] theorem State.replaceTwo_L (s : State) (v : Word) : (s.replaceTwo v).L = s.L := rfl
@[simp] theorem State.replaceTwo_Aux (s : State) (v : Word) : (s.replaceTwo v).Aux = s.Aux := rfl
@[simp] theorem State.replaceTwo_Const (s : State) (v : Word) : (s.replaceTwo v).Const = s.Const := rfl
@[simp] theorem State.replaceTwo_carry (s : State) (v : Word) : (s.replaceTwo v).carry = s.carry := rfl
@[simp] theorem State.replaceTwo_Field (s : State) (v : Word) : (s.replaceTwo v).Field = s.Field := rfl
@[simp] theorem State.replaceTwo_pc (s : State) (v : Word) : (s.replaceTwo v).pc = s.pc := rfl
@[simp] theorem State.replaceTwo_kernel (s : State) (v : Word) : (s.replaceTwo v).kernel = s.kernel := rfl
@[simp] theorem State.replaceTwo_trapsEnabled (s : State) (v : Word) : (s.replaceTwo v).trapsEnabled = s.trapsEnabled := rfl
@[simp] theorem State.replaceTwo_PReg (s : State) (v : Word) : (s.replaceTwo v).PReg = s.PReg := rfl
@[simp] theorem State.replaceTwo_CS (s : State) (v : Word) : (s.replaceTwo v).CS = s.CS := rfl
@[simp] theorem State.replaceTwo_mem (s : State) (v : Word) : (s.replaceTwo v).mem = s.mem := rfl
@[simp] theorem State.replaceTwo_events (s : State) (v : Word) : (s.replaceTwo v).events = s.events := rfl
@[simp] theorem State.replaceTwo_stored (s : State) (v : Word) : (s.replaceTwo v).stored = s.stored := rfl
@[simp] theorem State.replaceTwo_draws (s : State) (v : Word) : (s.replaceTwo v).draws = s.draws := rfl
@[simp] theorem State.replaceTwo_params (s : State) (v : Word) : (s.replaceTwo v).params = s.params := rfl
@[simp] theorem State.replaceTwo_nstack (s : State) (v : Word) : (s.replaceTwo v).nstack = s.nstack := rfl
@[simp] theorem State.replaceTwo_wrap (s : State) (v : Word) (j : StackIdx) : (s.replaceTwo v).wrap j = s.wrap j := rfl
@[simp] theorem State.replaceTwo_localIdx (s : State) (v : Word) (m : Nibble) : (s.replaceTwo v).localIdx m = s.localIdx m := rfl
@[simp] theorem State.replaceTwo_readAux (s : State) (v : Word) (m : Nibble) : (s.replaceTwo v).readAux m = s.readAux m := rfl
@[simp] theorem State.replaceTwo_readConst (s : State) (v : Word) (m : Fin 12) : (s.replaceTwo v).readConst m = s.readConst m := rfl
@[simp] theorem State.replaceTwo_admits (s : State) (v : Word) (b : Word) : (s.replaceTwo v).admits b = s.admits b := rfl
@[simp] theorem State.replaceTwo_pregMeaning (s : State) (v : Word) (k : Byte) : (s.replaceTwo v).pregMeaning k = s.pregMeaning k := rfl

@[simp] theorem State.writeAux_R (s : State) (n : Nibble) (v : Word) : (s.writeAux n v).R = s.R := rfl
@[simp] theorem State.writeAux_S (s : State) (n : Nibble) (v : Word) : (s.writeAux n v).S = s.S := rfl
@[simp] theorem State.writeAux_L (s : State) (n : Nibble) (v : Word) : (s.writeAux n v).L = s.L := rfl
@[simp] theorem State.writeAux_Aux (s : State) (n : Nibble) (v : Word) : (s.writeAux n v).Aux = s.Aux.set n.toNat v := rfl
@[simp] theorem State.writeAux_Const (s : State) (n : Nibble) (v : Word) : (s.writeAux n v).Const = s.Const := rfl
@[simp] theorem State.writeAux_carry (s : State) (n : Nibble) (v : Word) : (s.writeAux n v).carry = s.carry := rfl
@[simp] theorem State.writeAux_Field (s : State) (n : Nibble) (v : Word) : (s.writeAux n v).Field = s.Field := rfl
@[simp] theorem State.writeAux_pc (s : State) (n : Nibble) (v : Word) : (s.writeAux n v).pc = s.pc := rfl
@[simp] theorem State.writeAux_kernel (s : State) (n : Nibble) (v : Word) : (s.writeAux n v).kernel = s.kernel := rfl
@[simp] theorem State.writeAux_trapsEnabled (s : State) (n : Nibble) (v : Word) : (s.writeAux n v).trapsEnabled = s.trapsEnabled := rfl
@[simp] theorem State.writeAux_PReg (s : State) (n : Nibble) (v : Word) : (s.writeAux n v).PReg = s.PReg := rfl
@[simp] theorem State.writeAux_CS (s : State) (n : Nibble) (v : Word) : (s.writeAux n v).CS = s.CS := rfl
@[simp] theorem State.writeAux_mem (s : State) (n : Nibble) (v : Word) : (s.writeAux n v).mem = s.mem := rfl
@[simp] theorem State.writeAux_events (s : State) (n : Nibble) (v : Word) : (s.writeAux n v).events = s.events := rfl
@[simp] theorem State.writeAux_stored (s : State) (n : Nibble) (v : Word) : (s.writeAux n v).stored = s.stored := rfl
@[simp] theorem State.writeAux_draws (s : State) (n : Nibble) (v : Word) : (s.writeAux n v).draws = s.draws := rfl
@[simp] theorem State.writeAux_params (s : State) (n : Nibble) (v : Word) : (s.writeAux n v).params = s.params := rfl
@[simp] theorem State.writeAux_nstack (s : State) (n : Nibble) (v : Word) : (s.writeAux n v).nstack = s.nstack := rfl
@[simp] theorem State.writeAux_wrap (s : State) (n : Nibble) (v : Word) (j : StackIdx) : (s.writeAux n v).wrap j = s.wrap j := rfl
@[simp] theorem State.writeAux_localIdx (s : State) (n : Nibble) (v : Word) (m : Nibble) : (s.writeAux n v).localIdx m = s.localIdx m := rfl
@[simp] theorem State.writeAux_readR (s : State) (n : Nibble) (v : Word) (j : StackIdx) : (s.writeAux n v).readR j = s.readR j := rfl
@[simp] theorem State.writeAux_readConst (s : State) (n : Nibble) (v : Word) (m : Fin 12) : (s.writeAux n v).readConst m = s.readConst m := rfl
@[simp] theorem State.writeAux_admits (s : State) (n : Nibble) (v : Word) (b : Word) : (s.writeAux n v).admits b = s.admits b := rfl
@[simp] theorem State.writeAux_pregMeaning (s : State) (n : Nibble) (v : Word) (k : Byte) : (s.writeAux n v).pregMeaning k = s.pregMeaning k := rfl

@[simp] theorem State.writeConst_R (s : State) (n : Fin 12) (v : Word) : (s.writeConst n v).R = s.R := rfl
@[simp] theorem State.writeConst_S (s : State) (n : Fin 12) (v : Word) : (s.writeConst n v).S = s.S := rfl
@[simp] theorem State.writeConst_L (s : State) (n : Fin 12) (v : Word) : (s.writeConst n v).L = s.L := rfl
@[simp] theorem State.writeConst_Aux (s : State) (n : Fin 12) (v : Word) : (s.writeConst n v).Aux = s.Aux := rfl
@[simp] theorem State.writeConst_Const (s : State) (n : Fin 12) (v : Word) : (s.writeConst n v).Const = s.Const.set n.val v := rfl
@[simp] theorem State.writeConst_carry (s : State) (n : Fin 12) (v : Word) : (s.writeConst n v).carry = s.carry := rfl
@[simp] theorem State.writeConst_Field (s : State) (n : Fin 12) (v : Word) : (s.writeConst n v).Field = s.Field := rfl
@[simp] theorem State.writeConst_pc (s : State) (n : Fin 12) (v : Word) : (s.writeConst n v).pc = s.pc := rfl
@[simp] theorem State.writeConst_kernel (s : State) (n : Fin 12) (v : Word) : (s.writeConst n v).kernel = s.kernel := rfl
@[simp] theorem State.writeConst_trapsEnabled (s : State) (n : Fin 12) (v : Word) : (s.writeConst n v).trapsEnabled = s.trapsEnabled := rfl
@[simp] theorem State.writeConst_PReg (s : State) (n : Fin 12) (v : Word) : (s.writeConst n v).PReg = s.PReg := rfl
@[simp] theorem State.writeConst_CS (s : State) (n : Fin 12) (v : Word) : (s.writeConst n v).CS = s.CS := rfl
@[simp] theorem State.writeConst_mem (s : State) (n : Fin 12) (v : Word) : (s.writeConst n v).mem = s.mem := rfl
@[simp] theorem State.writeConst_events (s : State) (n : Fin 12) (v : Word) : (s.writeConst n v).events = s.events := rfl
@[simp] theorem State.writeConst_stored (s : State) (n : Fin 12) (v : Word) : (s.writeConst n v).stored = s.stored := rfl
@[simp] theorem State.writeConst_draws (s : State) (n : Fin 12) (v : Word) : (s.writeConst n v).draws = s.draws := rfl
@[simp] theorem State.writeConst_params (s : State) (n : Fin 12) (v : Word) : (s.writeConst n v).params = s.params := rfl
@[simp] theorem State.writeConst_nstack (s : State) (n : Fin 12) (v : Word) : (s.writeConst n v).nstack = s.nstack := rfl
@[simp] theorem State.writeConst_wrap (s : State) (n : Fin 12) (v : Word) (j : StackIdx) : (s.writeConst n v).wrap j = s.wrap j := rfl
@[simp] theorem State.writeConst_localIdx (s : State) (n : Fin 12) (v : Word) (m : Nibble) : (s.writeConst n v).localIdx m = s.localIdx m := rfl
@[simp] theorem State.writeConst_readR (s : State) (n : Fin 12) (v : Word) (j : StackIdx) : (s.writeConst n v).readR j = s.readR j := rfl
@[simp] theorem State.writeConst_readAux (s : State) (n : Fin 12) (v : Word) (m : Nibble) : (s.writeConst n v).readAux m = s.readAux m := rfl
@[simp] theorem State.writeConst_admits (s : State) (n : Fin 12) (v : Word) (b : Word) : (s.writeConst n v).admits b = s.admits b := rfl
@[simp] theorem State.writeConst_pregMeaning (s : State) (n : Fin 12) (v : Word) (k : Byte) : (s.writeConst n v).pregMeaning k = s.pregMeaning k := rfl

@[simp] theorem State.setCarry_R (s : State) (c : Bool) : (s.setCarry c).R = s.R := rfl
@[simp] theorem State.setCarry_S (s : State) (c : Bool) : (s.setCarry c).S = s.S := rfl
@[simp] theorem State.setCarry_L (s : State) (c : Bool) : (s.setCarry c).L = s.L := rfl
@[simp] theorem State.setCarry_Aux (s : State) (c : Bool) : (s.setCarry c).Aux = s.Aux := rfl
@[simp] theorem State.setCarry_Const (s : State) (c : Bool) : (s.setCarry c).Const = s.Const := rfl
@[simp] theorem State.setCarry_carry (s : State) (c : Bool) : (s.setCarry c).carry = c := rfl
@[simp] theorem State.setCarry_Field (s : State) (c : Bool) : (s.setCarry c).Field = s.Field := rfl
@[simp] theorem State.setCarry_pc (s : State) (c : Bool) : (s.setCarry c).pc = s.pc := rfl
@[simp] theorem State.setCarry_kernel (s : State) (c : Bool) : (s.setCarry c).kernel = s.kernel := rfl
@[simp] theorem State.setCarry_trapsEnabled (s : State) (c : Bool) : (s.setCarry c).trapsEnabled = s.trapsEnabled := rfl
@[simp] theorem State.setCarry_PReg (s : State) (c : Bool) : (s.setCarry c).PReg = s.PReg := rfl
@[simp] theorem State.setCarry_CS (s : State) (c : Bool) : (s.setCarry c).CS = s.CS := rfl
@[simp] theorem State.setCarry_mem (s : State) (c : Bool) : (s.setCarry c).mem = s.mem := rfl
@[simp] theorem State.setCarry_events (s : State) (c : Bool) : (s.setCarry c).events = s.events := rfl
@[simp] theorem State.setCarry_stored (s : State) (c : Bool) : (s.setCarry c).stored = s.stored := rfl
@[simp] theorem State.setCarry_draws (s : State) (c : Bool) : (s.setCarry c).draws = s.draws := rfl
@[simp] theorem State.setCarry_params (s : State) (c : Bool) : (s.setCarry c).params = s.params := rfl
@[simp] theorem State.setCarry_nstack (s : State) (c : Bool) : (s.setCarry c).nstack = s.nstack := rfl
@[simp] theorem State.setCarry_wrap (s : State) (c : Bool) (j : StackIdx) : (s.setCarry c).wrap j = s.wrap j := rfl
@[simp] theorem State.setCarry_localIdx (s : State) (c : Bool) (m : Nibble) : (s.setCarry c).localIdx m = s.localIdx m := rfl
@[simp] theorem State.setCarry_readR (s : State) (c : Bool) (j : StackIdx) : (s.setCarry c).readR j = s.readR j := rfl
@[simp] theorem State.setCarry_readAux (s : State) (c : Bool) (m : Nibble) : (s.setCarry c).readAux m = s.readAux m := rfl
@[simp] theorem State.setCarry_readConst (s : State) (c : Bool) (m : Fin 12) : (s.setCarry c).readConst m = s.readConst m := rfl
@[simp] theorem State.setCarry_admits (s : State) (c : Bool) (b : Word) : (s.setCarry c).admits b = s.admits b := rfl
@[simp] theorem State.setCarry_pregMeaning (s : State) (c : Bool) (k : Byte) : (s.setCarry c).pregMeaning k = s.pregMeaning k := rfl

@[simp] theorem State.setField_R (s : State) (v : Word) : (s.setField v).R = s.R := rfl
@[simp] theorem State.setField_S (s : State) (v : Word) : (s.setField v).S = s.S := rfl
@[simp] theorem State.setField_L (s : State) (v : Word) : (s.setField v).L = s.L := rfl
@[simp] theorem State.setField_Aux (s : State) (v : Word) : (s.setField v).Aux = s.Aux := rfl
@[simp] theorem State.setField_Const (s : State) (v : Word) : (s.setField v).Const = s.Const := rfl
@[simp] theorem State.setField_carry (s : State) (v : Word) : (s.setField v).carry = s.carry := rfl
@[simp] theorem State.setField_Field (s : State) (v : Word) : (s.setField v).Field = v := rfl
@[simp] theorem State.setField_pc (s : State) (v : Word) : (s.setField v).pc = s.pc := rfl
@[simp] theorem State.setField_kernel (s : State) (v : Word) : (s.setField v).kernel = s.kernel := rfl
@[simp] theorem State.setField_trapsEnabled (s : State) (v : Word) : (s.setField v).trapsEnabled = s.trapsEnabled := rfl
@[simp] theorem State.setField_PReg (s : State) (v : Word) : (s.setField v).PReg = s.PReg := rfl
@[simp] theorem State.setField_CS (s : State) (v : Word) : (s.setField v).CS = s.CS := rfl
@[simp] theorem State.setField_mem (s : State) (v : Word) : (s.setField v).mem = s.mem := rfl
@[simp] theorem State.setField_events (s : State) (v : Word) : (s.setField v).events = s.events := rfl
@[simp] theorem State.setField_stored (s : State) (v : Word) : (s.setField v).stored = s.stored := rfl
@[simp] theorem State.setField_draws (s : State) (v : Word) : (s.setField v).draws = s.draws := rfl
@[simp] theorem State.setField_params (s : State) (v : Word) : (s.setField v).params = s.params := rfl
@[simp] theorem State.setField_nstack (s : State) (v : Word) : (s.setField v).nstack = s.nstack := rfl
@[simp] theorem State.setField_wrap (s : State) (v : Word) (j : StackIdx) : (s.setField v).wrap j = s.wrap j := rfl
@[simp] theorem State.setField_localIdx (s : State) (v : Word) (m : Nibble) : (s.setField v).localIdx m = s.localIdx m := rfl
@[simp] theorem State.setField_readR (s : State) (v : Word) (j : StackIdx) : (s.setField v).readR j = s.readR j := rfl
@[simp] theorem State.setField_readAux (s : State) (v : Word) (m : Nibble) : (s.setField v).readAux m = s.readAux m := rfl
@[simp] theorem State.setField_readConst (s : State) (v : Word) (m : Fin 12) : (s.setField v).readConst m = s.readConst m := rfl
@[simp] theorem State.setField_admits (s : State) (v : Word) (b : Word) : (s.setField v).admits b = s.admits b := rfl
@[simp] theorem State.setField_pregMeaning (s : State) (v : Word) (k : Byte) : (s.setField v).pregMeaning k = s.pregMeaning k := rfl

@[simp] theorem State.setPReg_R (s : State) (i : Byte) (v : Word) : (s.setPReg i v).R = s.R := rfl
@[simp] theorem State.setPReg_S (s : State) (i : Byte) (v : Word) : (s.setPReg i v).S = s.S := rfl
@[simp] theorem State.setPReg_L (s : State) (i : Byte) (v : Word) : (s.setPReg i v).L = s.L := rfl
@[simp] theorem State.setPReg_Aux (s : State) (i : Byte) (v : Word) : (s.setPReg i v).Aux = s.Aux := rfl
@[simp] theorem State.setPReg_Const (s : State) (i : Byte) (v : Word) : (s.setPReg i v).Const = s.Const := rfl
@[simp] theorem State.setPReg_carry (s : State) (i : Byte) (v : Word) : (s.setPReg i v).carry = s.carry := rfl
@[simp] theorem State.setPReg_Field (s : State) (i : Byte) (v : Word) : (s.setPReg i v).Field = s.Field := rfl
@[simp] theorem State.setPReg_pc (s : State) (i : Byte) (v : Word) : (s.setPReg i v).pc = s.pc := rfl
@[simp] theorem State.setPReg_kernel (s : State) (i : Byte) (v : Word) : (s.setPReg i v).kernel = s.kernel := rfl
@[simp] theorem State.setPReg_trapsEnabled (s : State) (i : Byte) (v : Word) : (s.setPReg i v).trapsEnabled = s.trapsEnabled := rfl
@[simp] theorem State.setPReg_PReg (s : State) (i : Byte) (v : Word) : (s.setPReg i v).PReg = s.PReg.set i.toNat v := rfl
@[simp] theorem State.setPReg_CS (s : State) (i : Byte) (v : Word) : (s.setPReg i v).CS = s.CS := rfl
@[simp] theorem State.setPReg_mem (s : State) (i : Byte) (v : Word) : (s.setPReg i v).mem = s.mem := rfl
@[simp] theorem State.setPReg_events (s : State) (i : Byte) (v : Word) : (s.setPReg i v).events = s.events := rfl
@[simp] theorem State.setPReg_stored (s : State) (i : Byte) (v : Word) : (s.setPReg i v).stored = s.stored := rfl
@[simp] theorem State.setPReg_draws (s : State) (i : Byte) (v : Word) : (s.setPReg i v).draws = s.draws := rfl
@[simp] theorem State.setPReg_params (s : State) (i : Byte) (v : Word) : (s.setPReg i v).params = s.params := rfl
@[simp] theorem State.setPReg_nstack (s : State) (i : Byte) (v : Word) : (s.setPReg i v).nstack = s.nstack := rfl
@[simp] theorem State.setPReg_wrap (s : State) (i : Byte) (v : Word) (j : StackIdx) : (s.setPReg i v).wrap j = s.wrap j := rfl
@[simp] theorem State.setPReg_localIdx (s : State) (i : Byte) (v : Word) (m : Nibble) : (s.setPReg i v).localIdx m = s.localIdx m := rfl
@[simp] theorem State.setPReg_readR (s : State) (i : Byte) (v : Word) (j : StackIdx) : (s.setPReg i v).readR j = s.readR j := rfl
@[simp] theorem State.setPReg_readAux (s : State) (i : Byte) (v : Word) (m : Nibble) : (s.setPReg i v).readAux m = s.readAux m := rfl
@[simp] theorem State.setPReg_readConst (s : State) (i : Byte) (v : Word) (m : Fin 12) : (s.setPReg i v).readConst m = s.readConst m := rfl
@[simp] theorem State.setPReg_admits (s : State) (i : Byte) (v : Word) (b : Word) : (s.setPReg i v).admits b = s.admits b := rfl
@[simp] theorem State.setPReg_pregMeaning (s : State) (i : Byte) (v : Word) (k : Byte) : (s.setPReg i v).pregMeaning k = s.pregMeaning k := rfl

@[simp] theorem State.setKernel_R (s : State) (on : Bool) : (s.setKernel on).R = s.R := rfl
@[simp] theorem State.setKernel_S (s : State) (on : Bool) : (s.setKernel on).S = s.S := rfl
@[simp] theorem State.setKernel_L (s : State) (on : Bool) : (s.setKernel on).L = s.L := rfl
@[simp] theorem State.setKernel_Aux (s : State) (on : Bool) : (s.setKernel on).Aux = s.Aux := rfl
@[simp] theorem State.setKernel_Const (s : State) (on : Bool) : (s.setKernel on).Const = s.Const := rfl
@[simp] theorem State.setKernel_carry (s : State) (on : Bool) : (s.setKernel on).carry = s.carry := rfl
@[simp] theorem State.setKernel_Field (s : State) (on : Bool) : (s.setKernel on).Field = s.Field := rfl
@[simp] theorem State.setKernel_pc (s : State) (on : Bool) : (s.setKernel on).pc = s.pc := rfl
@[simp] theorem State.setKernel_kernel (s : State) (on : Bool) : (s.setKernel on).kernel = on := rfl
@[simp] theorem State.setKernel_trapsEnabled (s : State) (on : Bool) : (s.setKernel on).trapsEnabled = s.trapsEnabled := rfl
@[simp] theorem State.setKernel_PReg (s : State) (on : Bool) : (s.setKernel on).PReg = s.PReg := rfl
@[simp] theorem State.setKernel_CS (s : State) (on : Bool) : (s.setKernel on).CS = s.CS := rfl
@[simp] theorem State.setKernel_mem (s : State) (on : Bool) : (s.setKernel on).mem = s.mem := rfl
@[simp] theorem State.setKernel_events (s : State) (on : Bool) : (s.setKernel on).events = s.events := rfl
@[simp] theorem State.setKernel_stored (s : State) (on : Bool) : (s.setKernel on).stored = s.stored := rfl
@[simp] theorem State.setKernel_draws (s : State) (on : Bool) : (s.setKernel on).draws = s.draws := rfl
@[simp] theorem State.setKernel_params (s : State) (on : Bool) : (s.setKernel on).params = s.params := rfl
@[simp] theorem State.setKernel_nstack (s : State) (on : Bool) : (s.setKernel on).nstack = s.nstack := rfl
@[simp] theorem State.setKernel_wrap (s : State) (on : Bool) (j : StackIdx) : (s.setKernel on).wrap j = s.wrap j := rfl
@[simp] theorem State.setKernel_localIdx (s : State) (on : Bool) (m : Nibble) : (s.setKernel on).localIdx m = s.localIdx m := rfl
@[simp] theorem State.setKernel_readR (s : State) (on : Bool) (j : StackIdx) : (s.setKernel on).readR j = s.readR j := rfl
@[simp] theorem State.setKernel_readAux (s : State) (on : Bool) (m : Nibble) : (s.setKernel on).readAux m = s.readAux m := rfl
@[simp] theorem State.setKernel_readConst (s : State) (on : Bool) (m : Fin 12) : (s.setKernel on).readConst m = s.readConst m := rfl
@[simp] theorem State.setKernel_admits (s : State) (on : Bool) (b : Word) : (s.setKernel on).admits b = s.admits b := rfl
@[simp] theorem State.setKernel_pregMeaning (s : State) (on : Bool) (k : Byte) : (s.setKernel on).pregMeaning k = s.pregMeaning k := rfl

@[simp] theorem State.setTrapsEnabled_R (s : State) (on : Bool) : (s.setTrapsEnabled on).R = s.R := rfl
@[simp] theorem State.setTrapsEnabled_S (s : State) (on : Bool) : (s.setTrapsEnabled on).S = s.S := rfl
@[simp] theorem State.setTrapsEnabled_L (s : State) (on : Bool) : (s.setTrapsEnabled on).L = s.L := rfl
@[simp] theorem State.setTrapsEnabled_Aux (s : State) (on : Bool) : (s.setTrapsEnabled on).Aux = s.Aux := rfl
@[simp] theorem State.setTrapsEnabled_Const (s : State) (on : Bool) : (s.setTrapsEnabled on).Const = s.Const := rfl
@[simp] theorem State.setTrapsEnabled_carry (s : State) (on : Bool) : (s.setTrapsEnabled on).carry = s.carry := rfl
@[simp] theorem State.setTrapsEnabled_Field (s : State) (on : Bool) : (s.setTrapsEnabled on).Field = s.Field := rfl
@[simp] theorem State.setTrapsEnabled_pc (s : State) (on : Bool) : (s.setTrapsEnabled on).pc = s.pc := rfl
@[simp] theorem State.setTrapsEnabled_kernel (s : State) (on : Bool) : (s.setTrapsEnabled on).kernel = s.kernel := rfl
@[simp] theorem State.setTrapsEnabled_trapsEnabled (s : State) (on : Bool) : (s.setTrapsEnabled on).trapsEnabled = on := rfl
@[simp] theorem State.setTrapsEnabled_PReg (s : State) (on : Bool) : (s.setTrapsEnabled on).PReg = s.PReg := rfl
@[simp] theorem State.setTrapsEnabled_CS (s : State) (on : Bool) : (s.setTrapsEnabled on).CS = s.CS := rfl
@[simp] theorem State.setTrapsEnabled_mem (s : State) (on : Bool) : (s.setTrapsEnabled on).mem = s.mem := rfl
@[simp] theorem State.setTrapsEnabled_events (s : State) (on : Bool) : (s.setTrapsEnabled on).events = s.events := rfl
@[simp] theorem State.setTrapsEnabled_stored (s : State) (on : Bool) : (s.setTrapsEnabled on).stored = s.stored := rfl
@[simp] theorem State.setTrapsEnabled_draws (s : State) (on : Bool) : (s.setTrapsEnabled on).draws = s.draws := rfl
@[simp] theorem State.setTrapsEnabled_params (s : State) (on : Bool) : (s.setTrapsEnabled on).params = s.params := rfl
@[simp] theorem State.setTrapsEnabled_nstack (s : State) (on : Bool) : (s.setTrapsEnabled on).nstack = s.nstack := rfl
@[simp] theorem State.setTrapsEnabled_wrap (s : State) (on : Bool) (j : StackIdx) : (s.setTrapsEnabled on).wrap j = s.wrap j := rfl
@[simp] theorem State.setTrapsEnabled_localIdx (s : State) (on : Bool) (m : Nibble) : (s.setTrapsEnabled on).localIdx m = s.localIdx m := rfl
@[simp] theorem State.setTrapsEnabled_readR (s : State) (on : Bool) (j : StackIdx) : (s.setTrapsEnabled on).readR j = s.readR j := rfl
@[simp] theorem State.setTrapsEnabled_readAux (s : State) (on : Bool) (m : Nibble) : (s.setTrapsEnabled on).readAux m = s.readAux m := rfl
@[simp] theorem State.setTrapsEnabled_readConst (s : State) (on : Bool) (m : Fin 12) : (s.setTrapsEnabled on).readConst m = s.readConst m := rfl
@[simp] theorem State.setTrapsEnabled_admits (s : State) (on : Bool) (b : Word) : (s.setTrapsEnabled on).admits b = s.admits b := rfl
@[simp] theorem State.setTrapsEnabled_pregMeaning (s : State) (on : Bool) (k : Byte) : (s.setTrapsEnabled on).pregMeaning k = s.pregMeaning k := rfl

@[simp] theorem State.advance_R (s : State) (len : Nat) : (s.advance len).R = s.R := rfl
@[simp] theorem State.advance_S (s : State) (len : Nat) : (s.advance len).S = s.S := rfl
@[simp] theorem State.advance_L (s : State) (len : Nat) : (s.advance len).L = s.L := rfl
@[simp] theorem State.advance_Aux (s : State) (len : Nat) : (s.advance len).Aux = s.Aux := rfl
@[simp] theorem State.advance_Const (s : State) (len : Nat) : (s.advance len).Const = s.Const := rfl
@[simp] theorem State.advance_carry (s : State) (len : Nat) : (s.advance len).carry = s.carry := rfl
@[simp] theorem State.advance_Field (s : State) (len : Nat) : (s.advance len).Field = s.Field := rfl
@[simp] theorem State.advance_pc (s : State) (len : Nat) : (s.advance len).pc = s.pc + BitVec.ofNat 32 len := rfl
@[simp] theorem State.advance_kernel (s : State) (len : Nat) : (s.advance len).kernel = s.kernel := rfl
@[simp] theorem State.advance_trapsEnabled (s : State) (len : Nat) : (s.advance len).trapsEnabled = s.trapsEnabled := rfl
@[simp] theorem State.advance_PReg (s : State) (len : Nat) : (s.advance len).PReg = s.PReg := rfl
@[simp] theorem State.advance_CS (s : State) (len : Nat) : (s.advance len).CS = s.CS := rfl
@[simp] theorem State.advance_mem (s : State) (len : Nat) : (s.advance len).mem = s.mem := rfl
@[simp] theorem State.advance_events (s : State) (len : Nat) : (s.advance len).events = s.events := rfl
@[simp] theorem State.advance_stored (s : State) (len : Nat) : (s.advance len).stored = s.stored := rfl
@[simp] theorem State.advance_draws (s : State) (len : Nat) : (s.advance len).draws = s.draws := rfl
@[simp] theorem State.advance_params (s : State) (len : Nat) : (s.advance len).params = s.params := rfl
@[simp] theorem State.advance_nstack (s : State) (len : Nat) : (s.advance len).nstack = s.nstack := rfl
@[simp] theorem State.advance_wrap (s : State) (len : Nat) (j : StackIdx) : (s.advance len).wrap j = s.wrap j := rfl
@[simp] theorem State.advance_localIdx (s : State) (len : Nat) (m : Nibble) : (s.advance len).localIdx m = s.localIdx m := rfl
@[simp] theorem State.advance_readR (s : State) (len : Nat) (j : StackIdx) : (s.advance len).readR j = s.readR j := rfl
@[simp] theorem State.advance_readAux (s : State) (len : Nat) (m : Nibble) : (s.advance len).readAux m = s.readAux m := rfl
@[simp] theorem State.advance_readConst (s : State) (len : Nat) (m : Fin 12) : (s.advance len).readConst m = s.readConst m := rfl
@[simp] theorem State.advance_admits (s : State) (len : Nat) (b : Word) : (s.advance len).admits b = s.admits b := rfl
@[simp] theorem State.advance_pregMeaning (s : State) (len : Nat) (k : Byte) : (s.advance len).pregMeaning k = s.pregMeaning k := rfl

@[simp] theorem State.jump_R (s : State) (target : Word) : (s.jump target).R = s.R := rfl
@[simp] theorem State.jump_S (s : State) (target : Word) : (s.jump target).S = s.S := rfl
@[simp] theorem State.jump_L (s : State) (target : Word) : (s.jump target).L = s.L := rfl
@[simp] theorem State.jump_Aux (s : State) (target : Word) : (s.jump target).Aux = s.Aux := rfl
@[simp] theorem State.jump_Const (s : State) (target : Word) : (s.jump target).Const = s.Const := rfl
@[simp] theorem State.jump_carry (s : State) (target : Word) : (s.jump target).carry = s.carry := rfl
@[simp] theorem State.jump_Field (s : State) (target : Word) : (s.jump target).Field = s.Field := rfl
@[simp] theorem State.jump_pc (s : State) (target : Word) : (s.jump target).pc = target := rfl
@[simp] theorem State.jump_kernel (s : State) (target : Word) : (s.jump target).kernel = s.kernel := rfl
@[simp] theorem State.jump_trapsEnabled (s : State) (target : Word) : (s.jump target).trapsEnabled = s.trapsEnabled := rfl
@[simp] theorem State.jump_PReg (s : State) (target : Word) : (s.jump target).PReg = s.PReg := rfl
@[simp] theorem State.jump_CS (s : State) (target : Word) : (s.jump target).CS = s.CS := rfl
@[simp] theorem State.jump_mem (s : State) (target : Word) : (s.jump target).mem = s.mem := rfl
@[simp] theorem State.jump_events (s : State) (target : Word) : (s.jump target).events = s.events := rfl
@[simp] theorem State.jump_stored (s : State) (target : Word) : (s.jump target).stored = s.stored := rfl
@[simp] theorem State.jump_draws (s : State) (target : Word) : (s.jump target).draws = s.draws := rfl
@[simp] theorem State.jump_params (s : State) (target : Word) : (s.jump target).params = s.params := rfl
@[simp] theorem State.jump_nstack (s : State) (target : Word) : (s.jump target).nstack = s.nstack := rfl
@[simp] theorem State.jump_wrap (s : State) (target : Word) (j : StackIdx) : (s.jump target).wrap j = s.wrap j := rfl
@[simp] theorem State.jump_localIdx (s : State) (target : Word) (m : Nibble) : (s.jump target).localIdx m = s.localIdx m := rfl
@[simp] theorem State.jump_readR (s : State) (target : Word) (j : StackIdx) : (s.jump target).readR j = s.readR j := rfl
@[simp] theorem State.jump_readAux (s : State) (target : Word) (m : Nibble) : (s.jump target).readAux m = s.readAux m := rfl
@[simp] theorem State.jump_readConst (s : State) (target : Word) (m : Fin 12) : (s.jump target).readConst m = s.readConst m := rfl
@[simp] theorem State.jump_admits (s : State) (target : Word) (b : Word) : (s.jump target).admits b = s.admits b := rfl
@[simp] theorem State.jump_pregMeaning (s : State) (target : Word) (k : Byte) : (s.jump target).pregMeaning k = s.pregMeaning k := rfl

@[simp] theorem State.storeWord_R (s : State) (a v : Word) : (s.storeWord a v).R = s.R := rfl
@[simp] theorem State.storeWord_S (s : State) (a v : Word) : (s.storeWord a v).S = s.S := rfl
@[simp] theorem State.storeWord_L (s : State) (a v : Word) : (s.storeWord a v).L = s.L := rfl
@[simp] theorem State.storeWord_Aux (s : State) (a v : Word) : (s.storeWord a v).Aux = s.Aux := rfl
@[simp] theorem State.storeWord_Const (s : State) (a v : Word) : (s.storeWord a v).Const = s.Const := rfl
@[simp] theorem State.storeWord_carry (s : State) (a v : Word) : (s.storeWord a v).carry = s.carry := rfl
@[simp] theorem State.storeWord_Field (s : State) (a v : Word) : (s.storeWord a v).Field = s.Field := rfl
@[simp] theorem State.storeWord_pc (s : State) (a v : Word) : (s.storeWord a v).pc = s.pc := rfl
@[simp] theorem State.storeWord_kernel (s : State) (a v : Word) : (s.storeWord a v).kernel = s.kernel := rfl
@[simp] theorem State.storeWord_trapsEnabled (s : State) (a v : Word) : (s.storeWord a v).trapsEnabled = s.trapsEnabled := rfl
@[simp] theorem State.storeWord_PReg (s : State) (a v : Word) : (s.storeWord a v).PReg = s.PReg := rfl
@[simp] theorem State.storeWord_CS (s : State) (a v : Word) : (s.storeWord a v).CS = s.CS := rfl
@[simp] theorem State.storeWord_mem (s : State) (a v : Word) : (s.storeWord a v).mem = Memory.writeWord s.mem a v := rfl
@[simp] theorem State.storeWord_events (s : State) (a v : Word) : (s.storeWord a v).events = s.events := rfl
@[simp] theorem State.storeWord_stored (s : State) (a v : Word) : (s.storeWord a v).stored = insertRising s.stored a.toNat := rfl
@[simp] theorem State.storeWord_draws (s : State) (a v : Word) : (s.storeWord a v).draws = s.draws := rfl
@[simp] theorem State.storeWord_params (s : State) (a v : Word) : (s.storeWord a v).params = s.params := rfl
@[simp] theorem State.storeWord_nstack (s : State) (a v : Word) : (s.storeWord a v).nstack = s.nstack := rfl
@[simp] theorem State.storeWord_wrap (s : State) (a v : Word) (j : StackIdx) : (s.storeWord a v).wrap j = s.wrap j := rfl
@[simp] theorem State.storeWord_localIdx (s : State) (a v : Word) (m : Nibble) : (s.storeWord a v).localIdx m = s.localIdx m := rfl
@[simp] theorem State.storeWord_readR (s : State) (a v : Word) (j : StackIdx) : (s.storeWord a v).readR j = s.readR j := rfl
@[simp] theorem State.storeWord_readAux (s : State) (a v : Word) (m : Nibble) : (s.storeWord a v).readAux m = s.readAux m := rfl
@[simp] theorem State.storeWord_readConst (s : State) (a v : Word) (m : Fin 12) : (s.storeWord a v).readConst m = s.readConst m := rfl
@[simp] theorem State.storeWord_admits (s : State) (a v : Word) (b : Word) : (s.storeWord a v).admits b = s.admits b := rfl
@[simp] theorem State.storeWord_pregMeaning (s : State) (a v : Word) (k : Byte) : (s.storeWord a v).pregMeaning k = s.pregMeaning k := rfl

@[simp] theorem State.afterBusRead_R (s : State) (addr cmd : Word) : (s.afterBusRead addr cmd).R = s.R := rfl
@[simp] theorem State.afterBusRead_S (s : State) (addr cmd : Word) : (s.afterBusRead addr cmd).S = s.S := rfl
@[simp] theorem State.afterBusRead_L (s : State) (addr cmd : Word) : (s.afterBusRead addr cmd).L = s.L := rfl
@[simp] theorem State.afterBusRead_Aux (s : State) (addr cmd : Word) : (s.afterBusRead addr cmd).Aux = s.Aux := rfl
@[simp] theorem State.afterBusRead_Const (s : State) (addr cmd : Word) : (s.afterBusRead addr cmd).Const = s.Const := rfl
@[simp] theorem State.afterBusRead_carry (s : State) (addr cmd : Word) : (s.afterBusRead addr cmd).carry = s.carry := rfl
@[simp] theorem State.afterBusRead_Field (s : State) (addr cmd : Word) : (s.afterBusRead addr cmd).Field = s.Field := rfl
@[simp] theorem State.afterBusRead_pc (s : State) (addr cmd : Word) : (s.afterBusRead addr cmd).pc = s.pc := rfl
@[simp] theorem State.afterBusRead_kernel (s : State) (addr cmd : Word) : (s.afterBusRead addr cmd).kernel = s.kernel := rfl
@[simp] theorem State.afterBusRead_trapsEnabled (s : State) (addr cmd : Word) : (s.afterBusRead addr cmd).trapsEnabled = s.trapsEnabled := rfl
@[simp] theorem State.afterBusRead_PReg (s : State) (addr cmd : Word) : (s.afterBusRead addr cmd).PReg = s.PReg := rfl
@[simp] theorem State.afterBusRead_CS (s : State) (addr cmd : Word) : (s.afterBusRead addr cmd).CS = s.CS := rfl
@[simp] theorem State.afterBusRead_mem (s : State) (addr cmd : Word) : (s.afterBusRead addr cmd).mem = s.mem := rfl
@[simp] theorem State.afterBusRead_events (s : State) (addr cmd : Word) : (s.afterBusRead addr cmd).events = .read addr cmd (s.busAnswer addr cmd) :: s.events := rfl
@[simp] theorem State.afterBusRead_stored (s : State) (addr cmd : Word) : (s.afterBusRead addr cmd).stored = s.stored := rfl
@[simp] theorem State.afterBusRead_draws (s : State) (addr cmd : Word) : (s.afterBusRead addr cmd).draws = s.draws + 1 := rfl
@[simp] theorem State.afterBusRead_params (s : State) (addr cmd : Word) : (s.afterBusRead addr cmd).params = s.params := rfl
@[simp] theorem State.afterBusRead_nstack (s : State) (addr cmd : Word) : (s.afterBusRead addr cmd).nstack = s.nstack := rfl
@[simp] theorem State.afterBusRead_wrap (s : State) (addr cmd : Word) (j : StackIdx) : (s.afterBusRead addr cmd).wrap j = s.wrap j := rfl
@[simp] theorem State.afterBusRead_localIdx (s : State) (addr cmd : Word) (m : Nibble) : (s.afterBusRead addr cmd).localIdx m = s.localIdx m := rfl
@[simp] theorem State.afterBusRead_readR (s : State) (addr cmd : Word) (j : StackIdx) : (s.afterBusRead addr cmd).readR j = s.readR j := rfl
@[simp] theorem State.afterBusRead_readAux (s : State) (addr cmd : Word) (m : Nibble) : (s.afterBusRead addr cmd).readAux m = s.readAux m := rfl
@[simp] theorem State.afterBusRead_readConst (s : State) (addr cmd : Word) (m : Fin 12) : (s.afterBusRead addr cmd).readConst m = s.readConst m := rfl
@[simp] theorem State.afterBusRead_admits (s : State) (addr cmd : Word) (b : Word) : (s.afterBusRead addr cmd).admits b = s.admits b := rfl
@[simp] theorem State.afterBusRead_pregMeaning (s : State) (addr cmd : Word) (k : Byte) : (s.afterBusRead addr cmd).pregMeaning k = s.pregMeaning k := rfl

@[simp] theorem State.afterBusWrite_R (s : State) (addr cmd data : Word) : (s.afterBusWrite addr cmd data).R = s.R := rfl
@[simp] theorem State.afterBusWrite_S (s : State) (addr cmd data : Word) : (s.afterBusWrite addr cmd data).S = s.S := rfl
@[simp] theorem State.afterBusWrite_L (s : State) (addr cmd data : Word) : (s.afterBusWrite addr cmd data).L = s.L := rfl
@[simp] theorem State.afterBusWrite_Aux (s : State) (addr cmd data : Word) : (s.afterBusWrite addr cmd data).Aux = s.Aux := rfl
@[simp] theorem State.afterBusWrite_Const (s : State) (addr cmd data : Word) : (s.afterBusWrite addr cmd data).Const = s.Const := rfl
@[simp] theorem State.afterBusWrite_carry (s : State) (addr cmd data : Word) : (s.afterBusWrite addr cmd data).carry = s.carry := rfl
@[simp] theorem State.afterBusWrite_Field (s : State) (addr cmd data : Word) : (s.afterBusWrite addr cmd data).Field = s.Field := rfl
@[simp] theorem State.afterBusWrite_pc (s : State) (addr cmd data : Word) : (s.afterBusWrite addr cmd data).pc = s.pc := rfl
@[simp] theorem State.afterBusWrite_kernel (s : State) (addr cmd data : Word) : (s.afterBusWrite addr cmd data).kernel = s.kernel := rfl
@[simp] theorem State.afterBusWrite_trapsEnabled (s : State) (addr cmd data : Word) : (s.afterBusWrite addr cmd data).trapsEnabled = s.trapsEnabled := rfl
@[simp] theorem State.afterBusWrite_PReg (s : State) (addr cmd data : Word) : (s.afterBusWrite addr cmd data).PReg = s.PReg := rfl
@[simp] theorem State.afterBusWrite_CS (s : State) (addr cmd data : Word) : (s.afterBusWrite addr cmd data).CS = s.CS := rfl
@[simp] theorem State.afterBusWrite_mem (s : State) (addr cmd data : Word) : (s.afterBusWrite addr cmd data).mem = s.mem := rfl
@[simp] theorem State.afterBusWrite_events (s : State) (addr cmd data : Word) : (s.afterBusWrite addr cmd data).events = .write addr cmd data :: s.events := rfl
@[simp] theorem State.afterBusWrite_stored (s : State) (addr cmd data : Word) : (s.afterBusWrite addr cmd data).stored = s.stored := rfl
@[simp] theorem State.afterBusWrite_draws (s : State) (addr cmd data : Word) : (s.afterBusWrite addr cmd data).draws = s.draws := rfl
@[simp] theorem State.afterBusWrite_params (s : State) (addr cmd data : Word) : (s.afterBusWrite addr cmd data).params = s.params := rfl
@[simp] theorem State.afterBusWrite_nstack (s : State) (addr cmd data : Word) : (s.afterBusWrite addr cmd data).nstack = s.nstack := rfl
@[simp] theorem State.afterBusWrite_wrap (s : State) (addr cmd data : Word) (j : StackIdx) : (s.afterBusWrite addr cmd data).wrap j = s.wrap j := rfl
@[simp] theorem State.afterBusWrite_localIdx (s : State) (addr cmd data : Word) (m : Nibble) : (s.afterBusWrite addr cmd data).localIdx m = s.localIdx m := rfl
@[simp] theorem State.afterBusWrite_readR (s : State) (addr cmd data : Word) (j : StackIdx) : (s.afterBusWrite addr cmd data).readR j = s.readR j := rfl
@[simp] theorem State.afterBusWrite_readAux (s : State) (addr cmd data : Word) (m : Nibble) : (s.afterBusWrite addr cmd data).readAux m = s.readAux m := rfl
@[simp] theorem State.afterBusWrite_readConst (s : State) (addr cmd data : Word) (m : Fin 12) : (s.afterBusWrite addr cmd data).readConst m = s.readConst m := rfl
@[simp] theorem State.afterBusWrite_admits (s : State) (addr cmd data : Word) (b : Word) : (s.afterBusWrite addr cmd data).admits b = s.admits b := rfl
@[simp] theorem State.afterBusWrite_pregMeaning (s : State) (addr cmd data : Word) (k : Byte) : (s.afterBusWrite addr cmd data).pregMeaning k = s.pregMeaning k := rfl

@[simp] theorem State.writeTarget_PReg (s : State) (x : PRegTarget) (v : Word) : (s.writeTarget x v).PReg = s.PReg := by
  cases x <;> rfl
@[simp] theorem State.writeTarget_CS (s : State) (x : PRegTarget) (v : Word) : (s.writeTarget x v).CS = s.CS := by
  cases x <;> rfl
@[simp] theorem State.writeTarget_mem (s : State) (x : PRegTarget) (v : Word) : (s.writeTarget x v).mem = s.mem := by
  cases x <;> rfl
@[simp] theorem State.writeTarget_events (s : State) (x : PRegTarget) (v : Word) : (s.writeTarget x v).events = s.events := by
  cases x <;> rfl
@[simp] theorem State.writeTarget_stored (s : State) (x : PRegTarget) (v : Word) : (s.writeTarget x v).stored = s.stored := by
  cases x <;> rfl
@[simp] theorem State.writeTarget_draws (s : State) (x : PRegTarget) (v : Word) : (s.writeTarget x v).draws = s.draws := by
  cases x <;> rfl
@[simp] theorem State.writeTarget_params (s : State) (x : PRegTarget) (v : Word) : (s.writeTarget x v).params = s.params := by
  cases x <;> rfl

@[simp] theorem State.afterPregRead_R (s : State) (i : Byte) : (s.afterPregRead i).R = s.R := by
  unfold State.afterPregRead; split <;> rfl
@[simp] theorem State.afterPregRead_S (s : State) (i : Byte) : (s.afterPregRead i).S = s.S := by
  unfold State.afterPregRead; split <;> rfl
@[simp] theorem State.afterPregRead_L (s : State) (i : Byte) : (s.afterPregRead i).L = s.L := by
  unfold State.afterPregRead; split <;> rfl
@[simp] theorem State.afterPregRead_Aux (s : State) (i : Byte) : (s.afterPregRead i).Aux = s.Aux := by
  unfold State.afterPregRead; split <;> rfl
@[simp] theorem State.afterPregRead_Const (s : State) (i : Byte) : (s.afterPregRead i).Const = s.Const := by
  unfold State.afterPregRead; split <;> rfl
@[simp] theorem State.afterPregRead_carry (s : State) (i : Byte) : (s.afterPregRead i).carry = s.carry := by
  unfold State.afterPregRead; split <;> rfl
@[simp] theorem State.afterPregRead_Field (s : State) (i : Byte) : (s.afterPregRead i).Field = s.Field := by
  unfold State.afterPregRead; split <;> rfl
@[simp] theorem State.afterPregRead_pc (s : State) (i : Byte) : (s.afterPregRead i).pc = s.pc := by
  unfold State.afterPregRead; split <;> rfl
@[simp] theorem State.afterPregRead_kernel (s : State) (i : Byte) : (s.afterPregRead i).kernel = s.kernel := by
  unfold State.afterPregRead; split <;> rfl
@[simp] theorem State.afterPregRead_trapsEnabled (s : State) (i : Byte) : (s.afterPregRead i).trapsEnabled = s.trapsEnabled := by
  unfold State.afterPregRead; split <;> rfl
@[simp] theorem State.afterPregRead_PReg (s : State) (i : Byte) : (s.afterPregRead i).PReg = s.PReg := by
  unfold State.afterPregRead; split <;> rfl
@[simp] theorem State.afterPregRead_CS (s : State) (i : Byte) : (s.afterPregRead i).CS = s.CS := by
  unfold State.afterPregRead; split <;> rfl
@[simp] theorem State.afterPregRead_mem (s : State) (i : Byte) : (s.afterPregRead i).mem = s.mem := by
  unfold State.afterPregRead; split <;> rfl
@[simp] theorem State.afterPregRead_events (s : State) (i : Byte) : (s.afterPregRead i).events = s.events := by
  unfold State.afterPregRead; split <;> rfl
@[simp] theorem State.afterPregRead_stored (s : State) (i : Byte) : (s.afterPregRead i).stored = s.stored := by
  unfold State.afterPregRead; split <;> rfl
@[simp] theorem State.afterPregRead_params (s : State) (i : Byte) : (s.afterPregRead i).params = s.params := by
  unfold State.afterPregRead; split <;> rfl

@[simp] theorem State.writeDst_L (s : State) (x : Dst) (pops : StackIdx) (r : Word) : (s.writeDst x pops r).L = s.L := by
  cases x <;> rfl
@[simp] theorem State.writeDst_carry (s : State) (x : Dst) (pops : StackIdx) (r : Word) : (s.writeDst x pops r).carry = s.carry := by
  cases x <;> rfl
@[simp] theorem State.writeDst_Field (s : State) (x : Dst) (pops : StackIdx) (r : Word) : (s.writeDst x pops r).Field = s.Field := by
  cases x <;> rfl
@[simp] theorem State.writeDst_pc (s : State) (x : Dst) (pops : StackIdx) (r : Word) : (s.writeDst x pops r).pc = s.pc := by
  cases x <;> rfl
@[simp] theorem State.writeDst_kernel (s : State) (x : Dst) (pops : StackIdx) (r : Word) : (s.writeDst x pops r).kernel = s.kernel := by
  cases x <;> rfl
@[simp] theorem State.writeDst_trapsEnabled (s : State) (x : Dst) (pops : StackIdx) (r : Word) : (s.writeDst x pops r).trapsEnabled = s.trapsEnabled := by
  cases x <;> rfl
@[simp] theorem State.writeDst_PReg (s : State) (x : Dst) (pops : StackIdx) (r : Word) : (s.writeDst x pops r).PReg = s.PReg := by
  cases x <;> rfl
@[simp] theorem State.writeDst_CS (s : State) (x : Dst) (pops : StackIdx) (r : Word) : (s.writeDst x pops r).CS = s.CS := by
  cases x <;> rfl
@[simp] theorem State.writeDst_mem (s : State) (x : Dst) (pops : StackIdx) (r : Word) : (s.writeDst x pops r).mem = s.mem := by
  cases x <;> rfl
@[simp] theorem State.writeDst_events (s : State) (x : Dst) (pops : StackIdx) (r : Word) : (s.writeDst x pops r).events = s.events := by
  cases x <;> rfl
@[simp] theorem State.writeDst_stored (s : State) (x : Dst) (pops : StackIdx) (r : Word) : (s.writeDst x pops r).stored = s.stored := by
  cases x <;> rfl
@[simp] theorem State.writeDst_draws (s : State) (x : Dst) (pops : StackIdx) (r : Word) : (s.writeDst x pops r).draws = s.draws := by
  cases x <;> rfl
@[simp] theorem State.writeDst_params (s : State) (x : Dst) (pops : StackIdx) (r : Word) : (s.writeDst x pops r).params = s.params := by
  cases x <;> rfl

@[simp] theorem State.branch_R (s : State) (taken : Bool) (beta : Byte) : (s.branch taken beta).R = s.R := by
  cases taken <;> rfl
@[simp] theorem State.branch_S (s : State) (taken : Bool) (beta : Byte) : (s.branch taken beta).S = s.S := by
  cases taken <;> rfl
@[simp] theorem State.branch_L (s : State) (taken : Bool) (beta : Byte) : (s.branch taken beta).L = s.L := by
  cases taken <;> rfl
@[simp] theorem State.branch_Aux (s : State) (taken : Bool) (beta : Byte) : (s.branch taken beta).Aux = s.Aux := by
  cases taken <;> rfl
@[simp] theorem State.branch_Const (s : State) (taken : Bool) (beta : Byte) : (s.branch taken beta).Const = s.Const := by
  cases taken <;> rfl
@[simp] theorem State.branch_carry (s : State) (taken : Bool) (beta : Byte) : (s.branch taken beta).carry = s.carry := by
  cases taken <;> rfl
@[simp] theorem State.branch_Field (s : State) (taken : Bool) (beta : Byte) : (s.branch taken beta).Field = s.Field := by
  cases taken <;> rfl
@[simp] theorem State.branch_kernel (s : State) (taken : Bool) (beta : Byte) : (s.branch taken beta).kernel = s.kernel := by
  cases taken <;> rfl
@[simp] theorem State.branch_trapsEnabled (s : State) (taken : Bool) (beta : Byte) : (s.branch taken beta).trapsEnabled = s.trapsEnabled := by
  cases taken <;> rfl
@[simp] theorem State.branch_PReg (s : State) (taken : Bool) (beta : Byte) : (s.branch taken beta).PReg = s.PReg := by
  cases taken <;> rfl
@[simp] theorem State.branch_CS (s : State) (taken : Bool) (beta : Byte) : (s.branch taken beta).CS = s.CS := by
  cases taken <;> rfl
@[simp] theorem State.branch_mem (s : State) (taken : Bool) (beta : Byte) : (s.branch taken beta).mem = s.mem := by
  cases taken <;> rfl
@[simp] theorem State.branch_events (s : State) (taken : Bool) (beta : Byte) : (s.branch taken beta).events = s.events := by
  cases taken <;> rfl
@[simp] theorem State.branch_stored (s : State) (taken : Bool) (beta : Byte) : (s.branch taken beta).stored = s.stored := by
  cases taken <;> rfl
@[simp] theorem State.branch_draws (s : State) (taken : Bool) (beta : Byte) : (s.branch taken beta).draws = s.draws := by
  cases taken <;> rfl
@[simp] theorem State.branch_params (s : State) (taken : Bool) (beta : Byte) : (s.branch taken beta).params = s.params := by
  cases taken <;> rfl

/-- Reading a register after a register is written: indices are compared modulo `NSTACK` (R23). -/
theorem State.readR_writeR (s : State) (i j : StackIdx) (v : Word) :
    (s.writeR j v).readR i = if s.wrap i = s.wrap j then v else s.readR i := by
  unfold State.readR State.writeR
  simp only [State.wrap, State.nstack, Vector.getElem_set]
  by_cases h : BitVec.ofNat 8 (i.toNat % 2 ^ s.params.stackLog.val) = BitVec.ofNat 8 (j.toNat % 2 ^ s.params.stackLog.val)
  · simp [h]
  · have : ¬ (BitVec.ofNat 8 (j.toNat % 2 ^ s.params.stackLog.val)).toNat
        = (BitVec.ofNat 8 (i.toNat % 2 ^ s.params.stackLog.val)).toNat := fun e => h (BitVec.eq_of_toNat_eq e.symm)
    simp only [h, this, if_false]

/-- Reading a register after a push (R18). -/
theorem State.readR_push (s : State) (i : StackIdx) (v : Word) :
    (s.push v).readR i = if s.wrap i = s.wrap (s.S + 1) then v else s.readR i :=
  State.readR_writeR s i (s.S + 1) v

/-- Reading a register after two elements become one. -/
theorem State.readR_replaceTwo (s : State) (i : StackIdx) (v : Word) :
    (s.replaceTwo v).readR i = if s.wrap i = s.wrap (s.S - 1) then v else s.readR i :=
  State.readR_writeR s i (s.S - 1) v

/-- Reading an auxiliary register after one is written (R25). -/
theorem State.readAux_writeAux (s : State) (m n : Nibble) (v : Word) :
    (s.writeAux n v).readAux m = if m = n then v else s.readAux m := by
  unfold State.readAux State.writeAux
  simp only [Vector.getElem_set]
  by_cases h : m = n
  · simp [h]
  · have : ¬ n.toNat = m.toNat := fun e => h (BitVec.eq_of_toNat_eq e.symm)
    simp only [h, this, if_false]

/-- Reading a constant register after one is written (R26). -/
theorem State.readConst_writeConst (s : State) (m n : Fin 12) (v : Word) :
    (s.writeConst n v).readConst m = if m = n then v else s.readConst m := by
  unfold State.readConst State.writeConst
  simp only [Vector.getElem_set]
  by_cases h : m = n
  · simp [h]
  · have : ¬ n.val = m.val := fun e => h (Fin.ext e.symm)
    simp only [h, this, if_false]

/-- `NSTACK` is positive and at most 256. -/
theorem State.nstack_pos (s : State) : 0 < s.nstack := Nat.two_pow_pos _

theorem State.nstack_le (s : State) : s.nstack ≤ 256 := by
  have h : s.params.stackLog.val ≤ 8 := by have := s.params.stackLog.isLt; omega
  exact Nat.pow_le_pow_right (by omega) h

/-- A reduced index is the remainder modulo `NSTACK`. -/
theorem State.wrap_toNat (s : State) (i : StackIdx) : (s.wrap i).toNat = i.toNat % s.nstack := by
  have h1 : i.toNat % s.nstack < s.nstack := Nat.mod_lt _ s.nstack_pos
  have h2 := s.nstack_le
  unfold State.wrap
  rw [BitVec.toNat_ofNat, Nat.mod_eq_of_lt]
  omega

/-- A reduced index is below `NSTACK` (R23). -/
theorem State.wrap_lt (s : State) (i : StackIdx) : (s.wrap i).toNat < s.nstack := by
  rw [State.wrap_toNat]
  exact Nat.mod_lt _ s.nstack_pos

/-- An index below `NSTACK` is its own reduction. -/
theorem State.wrap_of_lt (s : State) (i : StackIdx) (h : i.toNat < s.nstack) : s.wrap i = i := by
  apply BitVec.eq_of_toNat_eq
  rw [State.wrap_toNat, Nat.mod_eq_of_lt h]

/-- Reducing twice is reducing once. -/
@[simp] theorem State.wrap_wrap (s : State) (i : StackIdx) : s.wrap (s.wrap i) = s.wrap i :=
  s.wrap_of_lt _ (s.wrap_lt i)

/-- A register is read at the reduced index. -/
@[simp] theorem State.readR_wrap (s : State) (i : StackIdx) : s.readR (s.wrap i) = s.readR i := by
  unfold State.readR
  simp only [State.wrap_wrap]

end Sys2Proof.Machine
end

