-- ==== Sys2Proof/Laws/Ops.lean ====
section
/-! SUPPORT. For each shared operation what it can do: from a next state back to the case that gave it, and
forward from the conditions under which it completes. -/
namespace Sys2Proof.Machine

/-! ## Traps (R283, R284, R291) -/

/-- Raising a trap never gives a next state. -/
theorem State.raise_ne_next (s t : State) (k : TrapKind) : s.raise k ≠ .next t := by
  unfold State.raise
  split <;> simp

theorem State.raise_enabled (s : State) (k : TrapKind) (h : s.trapsEnabled = true) :
    s.raise k = .fault (.trap k s.pc) := by
  simp [State.raise, h]

theorem State.raise_disabled (s : State) (k : TrapKind) (h : s.trapsEnabled = false) :
    s.raise k = .refused (.trapWhileDisabled k) := by
  simp [State.raise, h]

/-- A raised trap that faults names the kind and the address of the instruction, and traps were enabled. -/
theorem State.raise_fault (s : State) (k : TrapKind) (f : Fault) (h : s.raise k = .fault f) :
    f = .trap k s.pc ∧ s.trapsEnabled = true := by
  unfold State.raise at h
  split at h
  · rename_i e
    exact ⟨(Host.Outcome.fault.inj h).symm, e⟩
  · cases h

/-! ## Data memory (R51, R54, R321) -/

/-- A memory read that goes on read an admitted word that holds a value. -/
theorem State.memRead_next {s t : State} {a : Word} {k : Word → Result} (h : s.memRead a k = .next t) :
    ∃ v, s.Holds a v ∧ k v = .next t := by
  unfold State.memRead at h
  split at h
  · rename_i ha
    split at h
    · rename_i v hv
      exact ⟨v, ⟨ha, hv⟩, h⟩
    · cases h
  · cases h

theorem State.memRead_of_holds {s : State} {a v : Word} (k : Word → Result) (h : s.Holds a v) :
    s.memRead a k = k v := by
  simp [State.memRead, h.1, h.2]

/-- A memory write that goes on stored to an admitted word. -/
theorem State.memWrite_next {s t : State} {a v : Word} {k : State → Result} (h : s.memWrite a v k = .next t) :
    s.admits a = true ∧ k (s.storeWord a v) = .next t := by
  unfold State.memWrite at h
  split at h
  · rename_i ha
    exact ⟨ha, h⟩
  · cases h

theorem State.memWrite_of_admits {s : State} {a : Word} (v : Word) (k : State → Result)
    (h : s.admits a = true) : s.memWrite a v k = k (s.storeWord a v) := by
  simp [State.memWrite, h]

/-! ## Calls and returns (R17, R34, R110, R276) -/

/-- The state with a link pushed for an instruction of length `len`. -/
def State.linked (s : State) (len : Nat) : State :=
  { s with CS := { ret := s.pc + BitVec.ofNat 32 len, savedL := s.L } :: s.CS }

/-- A push of a link that goes on found room. -/
theorem State.pushLink_next {s t : State} {len : Nat} {k : State → Result} (h : s.pushLink len k = .next t) :
    s.csFull = false ∧ k (s.linked len) = .next t := by
  unfold State.pushLink at h
  split at h
  · cases h
  · rename_i hf
    exact ⟨by simpa using hf, h⟩

theorem State.pushLink_of_room {s : State} (len : Nat) (k : State → Result) (h : s.csFull = false) :
    s.pushLink len k = k (s.linked len) := by
  simp [State.pushLink, h, State.linked]

theorem State.call_next {s t : State} {target : Word} {len : Nat} (h : s.call target len = .next t) :
    s.csFull = false ∧ t = (s.linked len).jump target := by
  obtain ⟨hf, hk⟩ := State.pushLink_next h
  exact ⟨hf, (Host.Outcome.next.inj hk).symm⟩

/-- A return takes the newest link. -/
theorem State.ret_next {s t : State} (h : s.ret = .next t) :
    ∃ link rest, s.CS = link :: rest ∧ t = { s with CS := rest, pc := link.ret, L := link.savedL } := by
  unfold State.ret at h
  split at h
  · cases h
  · rename_i link rest e
    exact ⟨link, rest, e, (Host.Outcome.next.inj h).symm⟩

theorem State.enterKernel_next {s t : State} (h : s.enterKernel = .next t) :
    s.csFull = false ∧
      t = { s.linked 1 with pc := s.params.instTrap[0x54], kernel := true, trapsEnabled := false } := by
  obtain ⟨hf, hk⟩ := State.pushLink_next h
  exact ⟨hf, (Host.Outcome.next.inj hk).symm⟩

theorem State.takeXop_next {s t : State} {op : Byte} {len : Nat} {operands : List Byte}
    (h : s.takeXop op len operands = .next t) :
    s.trapsEnabled = true ∧ s.params.xopContinues = true ∧ s.csFull = false ∧
      t = (s.linked len).jump (s.params.instTrap[op.toNat]'op.isLt) := by
  unfold State.takeXop at h
  split at h
  · rename_i e
    simp only [Bool.and_eq_true] at e
    obtain ⟨hf, hk⟩ := State.pushLink_next h
    exact ⟨e.1, e.2, hf, (Host.Outcome.next.inj hk).symm⟩
  · exact absurd h (s.raise_ne_next t _)

/-! ## The bus and the processor registers (R33, R165) -/

/-- A bus instruction that goes on has a command of exactly one kind. -/
theorem State.busCommand_next {s t : State} {op cmd : Byte} {onRead onWrite : Result}
    (h : s.busCommand op cmd onRead onWrite = .next t) :
    (s.cmdReads cmd = true ∧ s.cmdWrites cmd = false ∧ onRead = .next t) ∨
      (s.cmdReads cmd = false ∧ s.cmdWrites cmd = true ∧ onWrite = .next t) := by
  unfold State.busCommand at h
  split at h
  · exact .inl ⟨‹_›, ‹_›, h⟩
  · exact .inr ⟨‹_›, ‹_›, h⟩
  · cases h

theorem State.busCommand_read {s : State} {op cmd : Byte} (onRead onWrite : Result)
    (hr : s.cmdReads cmd = true) (hw : s.cmdWrites cmd = false) :
    s.busCommand op cmd onRead onWrite = onRead := by
  simp [State.busCommand, hr, hw]

theorem State.busCommand_write {s : State} {op cmd : Byte} (onRead onWrite : Result)
    (hr : s.cmdReads cmd = false) (hw : s.cmdWrites cmd = true) :
    s.busCommand op cmd onRead onWrite = onWrite := by
  simp [State.busCommand, hr, hw]

/-- A write of a PReg number that goes on found the number configured (R33): the number's own word is set, or
nothing, or the state it stands for. -/
theorem State.pregWrite_next {s t : State} {i : Byte} {v : Word} {k : State → Result}
    (h : s.pregWrite i v k = .next t) :
    ((s.pregMeaning i).write = .own ∧ k (s.setPReg i v) = .next t) ∨
      ((s.pregMeaning i).write = .ignore ∧ k s = .next t) ∨
      ∃ x, (s.pregMeaning i).write = .state x ∧ k (s.writeTarget x v) = .next t := by
  unfold State.pregWrite at h
  split at h
  · cases h
  · exact .inl ⟨‹_›, h⟩
  · exact .inr (.inl ⟨‹_›, h⟩)
  · rename_i x e
    exact .inr (.inr ⟨x, e, h⟩)

/-- A write of a PReg number by its configured meaning (R33). -/
theorem State.pregWrite_refuse {s : State} {i : Byte} (v : Word) (k : State → Result)
    (h : (s.pregMeaning i).write = .refuse) : s.pregWrite i v k = .refused (.pregUnconfigured i) := by
  simp [State.pregWrite, h]

theorem State.pregWrite_own {s : State} {i : Byte} (v : Word) (k : State → Result)
    (h : (s.pregMeaning i).write = .own) : s.pregWrite i v k = k (s.setPReg i v) := by
  simp [State.pregWrite, h]

theorem State.pregWrite_ignore {s : State} {i : Byte} (v : Word) (k : State → Result)
    (h : (s.pregMeaning i).write = .ignore) : s.pregWrite i v k = k s := by
  simp [State.pregWrite, h]

theorem State.pregWrite_state {s : State} {i : Byte} {x : PRegTarget} (v : Word) (k : State → Result)
    (h : (s.pregMeaning i).write = .state x) : s.pregWrite i v k = k (s.writeTarget x v) := by
  simp [State.pregWrite, h]

/-- A read of a PReg number uses up a draw or changes nothing (R33). -/
theorem State.afterPregRead_cases (s : State) (i : Byte) :
    ((s.pregMeaning i).read = .draw ∧ s.afterPregRead i = { s with draws := s.draws + 1 }) ∨
      ((s.pregMeaning i).read ≠ .draw ∧ s.afterPregRead i = s) := by
  unfold State.afterPregRead
  split
  · exact .inl ⟨‹_›, rfl⟩
  all_goals (rename_i e; exact .inr ⟨by rw [e]; simp, rfl⟩)

/-! ## The arithmetic operations (R222) -/

/-- An operation that goes on leaves every field but the carry alone, and hands on a result; its carry is the
old one, cleared, or (RUADD, RUSUB) the carry or borrow out. -/
theorem State.alu_next {s t : State} {op : AluOp} {a b : Word} {k : Word → State → Result}
    (h : s.alu op a b k = .next t) :
    ∃ r c, k r (s.setCarry c) = .next t ∧
      (c = s.carry ∨ c = false ∨ (op = .uadd ∧ c = (uAdd a b s.carry).2) ∨
        (op = .usub ∧ c = (uSub a b s.carry).2)) := by
  have same : s.setCarry s.carry = s := rfl
  cases op <;> simp only [State.alu] at h
  case rx =>
    obtain ⟨v, _, hk⟩ := State.memRead_next h
    exact ⟨v, s.carry, hk, .inl rfl⟩
  case bc =>
    split at h
    · exact absurd h (s.raise_ne_next t _)
    · exact ⟨a, s.carry, h, .inl rfl⟩
  case add =>
    split at h
    · exact absurd h (s.raise_ne_next t _)
    · exact ⟨_, _, h, .inr (.inl rfl)⟩
  case sub =>
    split at h
    · exact absurd h (s.raise_ne_next t _)
    · exact ⟨_, _, h, .inr (.inl rfl)⟩
  case ladd =>
    split at h
    · exact absurd h (s.raise_ne_next t _)
    · exact ⟨_, _, h, .inr (.inl rfl)⟩
  case lsub =>
    split at h
    · exact absurd h (s.raise_ne_next t _)
    · exact ⟨_, _, h, .inr (.inl rfl)⟩
  case uadd => exact ⟨_, _, h, .inr (.inr (.inl ⟨rfl, rfl⟩))⟩
  case usub => exact ⟨_, _, h, .inr (.inr (.inr ⟨rfl, rfl⟩))⟩
  all_goals exact ⟨_, s.carry, h, .inl rfl⟩

theorem State.stackAlu_next {s t : State} {op : AluOp} {a b : Word} (h : s.stackAlu op a b = .next t) :
    ∃ r c, t = ((s.setCarry c).replaceTwo r).advance 1 := by
  obtain ⟨r, c, hk, _⟩ := State.alu_next h
  exact ⟨r, c, (Host.Outcome.next.inj hk).symm⟩

theorem State.literalAlu_next {s t : State} {op : AluOp} {v : Word} {len : Nat}
    (h : s.literalAlu op v len = .next t) : ∃ r c, t = ((s.setCarry c).writeR s.S r).advance len := by
  obtain ⟨r, c, hk, _⟩ := State.alu_next h
  exact ⟨r, c, (Host.Outcome.next.inj hk).symm⟩

theorem State.regAlu_next {s t : State} {op : AluOp} {ra rb : Src} {rc : Dst} {len : Nat}
    (h : s.regAlu op ra rb rc len = .next t) :
    ∃ r c, t = ((s.setCarry c).writeDst rc (srcPops ra + srcPops rb) r).advance len := by
  obtain ⟨r, c, hk, _⟩ := State.alu_next h
  exact ⟨r, c, (Host.Outcome.next.inj hk).symm⟩

/-- A form RR instruction that goes on keeps Locals and AuxRegs apart (R216). -/
theorem State.formRR_next {s t : State} {opc : Byte} {op : AluOp} {ra rb : Src} {rc : Dst}
    (h : s.formRR opc op ra rb rc = .next t) :
    separateKinds ra rb rc = true ∧ s.regAlu op ra rb rc 3 = .next t := by
  unfold State.formRR at h
  split at h
  · exact ⟨‹_›, h⟩
  · cases h

/-! ## Fetch and step (R52, R326) -/

/-- Every step of a run that has not ended fetches a first byte. -/
theorem State.fetchReaches_nil {s : State} (h : s.ended = false) : s.FetchReaches [] :=
  ⟨h, by simp, by simp⟩

/-- A step whose first byte can be fetched goes on to the second, where its opcode has one. -/
theorem State.fetchReaches_one {s : State} {op : Byte} (h : s.ended = false) (hb : s.Fetchable s.pc op)
    (hl : 1 < lengthOf op) : s.FetchReaches [op] := by
  refine ⟨h, fun k v e => ?_, by simp; exact hl⟩
  rcases k with _ | k
  · cases e
    simpa using hb
  · cases e

/-- A fetch of a byte that goes on found it fetchable. -/
theorem State.fetchByte_next {s t : State} {b : Word} {k : Byte → Result} (h : s.fetchByte b k = .next t) :
    ∃ v, s.Fetchable b v ∧ k v = .next t := by
  unfold State.fetchByte at h
  split at h
  · rename_i ha
    split at h
    · cases h
    · rename_i hs
      split at h
      · rename_i v hv
        exact ⟨v, ⟨ha, by simpa using hs, hv⟩, h⟩
      · cases h
  · cases h

theorem State.fetchByte_of_fetchable {s : State} {b : Word} {v : Byte} (k : Byte → Result)
    (h : s.Fetchable b v) : s.fetchByte b k = k v := by
  obtain ⟨ha, hs, hv⟩ := h
  simp [State.fetchByte, ha, hs, hv]

theorem State.fetchBytes_next {s t : State} {n : Nat} {b : Word} {k : List Byte → Result}
    (h : s.fetchBytes n b k = .next t) : ∃ vs, vs.length = n ∧ k vs = .next t := by
  induction n generalizing b k with
  | zero => exact ⟨[], rfl, h⟩
  | succ n ih =>
    obtain ⟨v, _, hk⟩ := State.fetchByte_next h
    obtain ⟨vs, hl, hv⟩ := ih hk
    exact ⟨v :: vs, by simp [hl], hv⟩

/-- A step that goes on is the end of a run standing still, or the meaning of the instruction fetched. -/
theorem step_next {s t : State} (h : step s = .next t) :
    (s.ended = true ∧ t = s) ∨ (s.ended = false ∧ ∃ i, exec i s = .next t) := by
  unfold step at h
  split at h
  · exact .inl ⟨‹_›, (Host.Outcome.next.inj h).symm⟩
  · rename_i he
    refine .inr ⟨by simpa using he, ?_⟩
    unfold State.fetchInstr at h
    obtain ⟨op, _, h1⟩ := State.fetchByte_next h
    obtain ⟨vs, _, h2⟩ := State.fetchBytes_next h1
    replace h2 : s.runBytes (op :: vs) = .next t := h2
    unfold State.runBytes at h2
    split at h2
    · exact ⟨_, h2⟩
    · cases h2
    · cases h2

end Sys2Proof.Machine
end

