-- ==== Sys2Proof/Laws/PerInstr.lean ====
section
/-! SUPPORT. Statements made for each instruction. EncodedLength: the encoding starts with the instruction's
opcode byte and is as long as that byte says (R71, R85). -/
namespace Sys2Proof.Laws

/-- The encoding of `i` is an opcode byte and as many bytes as R71 gives that byte. -/
def EncodedLength.Statement (i : Instr) : Prop :=
  (encode i).length = lengthOf ((encode i).headD 0)

theorem EncodedLength.xop00 : EncodedLength.Statement (.xop00) :=
  show 1 = lengthOf 0x00 by decide
theorem EncodedLength.xop01 : EncodedLength.Statement (.xop01) :=
  show 1 = lengthOf 0x01 by decide
theorem EncodedLength.xop02 : EncodedLength.Statement (.xop02) :=
  show 1 = lengthOf 0x02 by decide
theorem EncodedLength.xop03 : EncodedLength.Statement (.xop03) :=
  show 1 = lengthOf 0x03 by decide
theorem EncodedLength.xop04 : EncodedLength.Statement (.xop04) :=
  show 1 = lengthOf 0x04 by decide
theorem EncodedLength.xop05 : EncodedLength.Statement (.xop05) :=
  show 1 = lengthOf 0x05 by decide
theorem EncodedLength.xop06 : EncodedLength.Statement (.xop06) :=
  show 1 = lengthOf 0x06 by decide
theorem EncodedLength.xop07 : EncodedLength.Statement (.xop07) :=
  show 1 = lengthOf 0x07 by decide
theorem EncodedLength.xop08 : EncodedLength.Statement (.xop08) :=
  show 1 = lengthOf 0x08 by decide
theorem EncodedLength.xop09 : EncodedLength.Statement (.xop09) :=
  show 1 = lengthOf 0x09 by decide
theorem EncodedLength.xop0A : EncodedLength.Statement (.xop0A) :=
  show 1 = lengthOf 0x0A by decide
theorem EncodedLength.xop0B : EncodedLength.Statement (.xop0B) :=
  show 1 = lengthOf 0x0B by decide
theorem EncodedLength.xop0C : EncodedLength.Statement (.xop0C) :=
  show 1 = lengthOf 0x0C by decide
theorem EncodedLength.xop0D : EncodedLength.Statement (.xop0D) :=
  show 1 = lengthOf 0x0D by decide
theorem EncodedLength.xop0E : EncodedLength.Statement (.xop0E) :=
  show 1 = lengthOf 0x0E by decide
theorem EncodedLength.xop0F : EncodedLength.Statement (.xop0F) :=
  show 1 = lengthOf 0x0F by decide
theorem EncodedLength.lc0 : EncodedLength.Statement (.lc0) :=
  show 1 = lengthOf 0x10 by decide
theorem EncodedLength.lc1 : EncodedLength.Statement (.lc1) :=
  show 1 = lengthOf 0x11 by decide
theorem EncodedLength.lc2 : EncodedLength.Statement (.lc2) :=
  show 1 = lengthOf 0x12 by decide
theorem EncodedLength.lc3 : EncodedLength.Statement (.lc3) :=
  show 1 = lengthOf 0x13 by decide
theorem EncodedLength.lc4 : EncodedLength.Statement (.lc4) :=
  show 1 = lengthOf 0x14 by decide
theorem EncodedLength.lc5 : EncodedLength.Statement (.lc5) :=
  show 1 = lengthOf 0x15 by decide
theorem EncodedLength.lc6 : EncodedLength.Statement (.lc6) :=
  show 1 = lengthOf 0x16 by decide
theorem EncodedLength.lc7 : EncodedLength.Statement (.lc7) :=
  show 1 = lengthOf 0x17 by decide
theorem EncodedLength.lc8 : EncodedLength.Statement (.lc8) :=
  show 1 = lengthOf 0x18 by decide
theorem EncodedLength.lc9 : EncodedLength.Statement (.lc9) :=
  show 1 = lengthOf 0x19 by decide
theorem EncodedLength.lc10 : EncodedLength.Statement (.lc10) :=
  show 1 = lengthOf 0x1A by decide
theorem EncodedLength.lc11 : EncodedLength.Statement (.lc11) :=
  show 1 = lengthOf 0x1B by decide
theorem EncodedLength.xop1C : EncodedLength.Statement (.xop1C) :=
  show 1 = lengthOf 0x1C by decide
theorem EncodedLength.xop1D : EncodedLength.Statement (.xop1D) :=
  show 1 = lengthOf 0x1D by decide
theorem EncodedLength.xop1E : EncodedLength.Statement (.xop1E) :=
  show 1 = lengthOf 0x1E by decide
theorem EncodedLength.xop1F : EncodedLength.Statement (.xop1F) :=
  show 1 = lengthOf 0x1F by decide
theorem EncodedLength.xop20 (alpha beta gamma delta : Byte) : EncodedLength.Statement (.xop20 alpha beta gamma delta) :=
  show 5 = lengthOf 0x20 by decide
theorem EncodedLength.xop21 (alpha beta gamma delta : Byte) : EncodedLength.Statement (.xop21 alpha beta gamma delta) :=
  show 5 = lengthOf 0x21 by decide
theorem EncodedLength.xop22 (alpha beta gamma delta : Byte) : EncodedLength.Statement (.xop22 alpha beta gamma delta) :=
  show 5 = lengthOf 0x22 by decide
theorem EncodedLength.xop23 (alpha beta gamma delta : Byte) : EncodedLength.Statement (.xop23 alpha beta gamma delta) :=
  show 5 = lengthOf 0x23 by decide
theorem EncodedLength.xop24 (alpha beta gamma delta : Byte) : EncodedLength.Statement (.xop24 alpha beta gamma delta) :=
  show 5 = lengthOf 0x24 by decide
theorem EncodedLength.xop25 (alpha beta gamma delta : Byte) : EncodedLength.Statement (.xop25 alpha beta gamma delta) :=
  show 5 = lengthOf 0x25 by decide
theorem EncodedLength.xop26 (alpha beta gamma delta : Byte) : EncodedLength.Statement (.xop26 alpha beta gamma delta) :=
  show 5 = lengthOf 0x26 by decide
theorem EncodedLength.xop27 (alpha beta gamma delta : Byte) : EncodedLength.Statement (.xop27 alpha beta gamma delta) :=
  show 5 = lengthOf 0x27 by decide
theorem EncodedLength.xop28 (alpha beta gamma delta : Byte) : EncodedLength.Statement (.xop28 alpha beta gamma delta) :=
  show 5 = lengthOf 0x28 by decide
theorem EncodedLength.xop29 (alpha beta gamma delta : Byte) : EncodedLength.Statement (.xop29 alpha beta gamma delta) :=
  show 5 = lengthOf 0x29 by decide
theorem EncodedLength.xop2A (alpha beta gamma delta : Byte) : EncodedLength.Statement (.xop2A alpha beta gamma delta) :=
  show 5 = lengthOf 0x2A by decide
theorem EncodedLength.xop2B (alpha beta gamma delta : Byte) : EncodedLength.Statement (.xop2B alpha beta gamma delta) :=
  show 5 = lengthOf 0x2B by decide
theorem EncodedLength.xop2C (alpha beta gamma delta : Byte) : EncodedLength.Statement (.xop2C alpha beta gamma delta) :=
  show 5 = lengthOf 0x2C by decide
theorem EncodedLength.xop2D (alpha beta gamma delta : Byte) : EncodedLength.Statement (.xop2D alpha beta gamma delta) :=
  show 5 = lengthOf 0x2D by decide
theorem EncodedLength.xop2E (alpha beta gamma delta : Byte) : EncodedLength.Statement (.xop2E alpha beta gamma delta) :=
  show 5 = lengthOf 0x2E by decide
theorem EncodedLength.xop2F (alpha beta gamma delta : Byte) : EncodedLength.Statement (.xop2F alpha beta gamma delta) :=
  show 5 = lengthOf 0x2F by decide
theorem EncodedLength.xop30 (alpha beta gamma delta : Byte) : EncodedLength.Statement (.xop30 alpha beta gamma delta) :=
  show 5 = lengthOf 0x30 by decide
theorem EncodedLength.dfc (alpha beta gamma delta : Byte) : EncodedLength.Statement (.dfc alpha beta gamma delta) :=
  show 5 = lengthOf 0x31 by decide
theorem EncodedLength.liqb (alpha beta gamma delta : Byte) : EncodedLength.Statement (.liqb alpha beta gamma delta) :=
  show 5 = lengthOf 0x32 by decide
theorem EncodedLength.xop33 (alpha beta gamma delta : Byte) : EncodedLength.Statement (.xop33 alpha beta gamma delta) :=
  show 5 = lengthOf 0x33 by decide
theorem EncodedLength.addqb (alpha beta gamma delta : Byte) : EncodedLength.Statement (.addqb alpha beta gamma delta) :=
  show 5 = lengthOf 0x34 by decide
theorem EncodedLength.subqb (alpha beta gamma delta : Byte) : EncodedLength.Statement (.subqb alpha beta gamma delta) :=
  show 5 = lengthOf 0x35 by decide
theorem EncodedLength.j5 (alpha beta gamma delta : Byte) : EncodedLength.Statement (.j5 alpha beta gamma delta) :=
  show 5 = lengthOf 0x36 by decide
theorem EncodedLength.jqb (alpha beta gamma delta : Byte) : EncodedLength.Statement (.jqb alpha beta gamma delta) :=
  show 5 = lengthOf 0x37 by decide
theorem EncodedLength.xop38 (alpha beta gamma delta : Byte) : EncodedLength.Statement (.xop38 alpha beta gamma delta) :=
  show 5 = lengthOf 0x38 by decide
theorem EncodedLength.xop39 (alpha beta gamma delta : Byte) : EncodedLength.Statement (.xop39 alpha beta gamma delta) :=
  show 5 = lengthOf 0x39 by decide
theorem EncodedLength.xop3A (alpha beta gamma delta : Byte) : EncodedLength.Statement (.xop3A alpha beta gamma delta) :=
  show 5 = lengthOf 0x3A by decide
theorem EncodedLength.xop3B (alpha beta gamma delta : Byte) : EncodedLength.Statement (.xop3B alpha beta gamma delta) :=
  show 5 = lengthOf 0x3B by decide
theorem EncodedLength.xop3C (alpha beta gamma delta : Byte) : EncodedLength.Statement (.xop3C alpha beta gamma delta) :=
  show 5 = lengthOf 0x3C by decide
theorem EncodedLength.xop3D (alpha beta gamma delta : Byte) : EncodedLength.Statement (.xop3D alpha beta gamma delta) :=
  show 5 = lengthOf 0x3D by decide
theorem EncodedLength.xop3E (alpha beta gamma delta : Byte) : EncodedLength.Statement (.xop3E alpha beta gamma delta) :=
  show 5 = lengthOf 0x3E by decide
theorem EncodedLength.xop3F (alpha beta gamma delta : Byte) : EncodedLength.Statement (.xop3F alpha beta gamma delta) :=
  show 5 = lengthOf 0x3F by decide
theorem EncodedLength.or : EncodedLength.Statement (.or) :=
  show 1 = lengthOf 0x40 by decide
theorem EncodedLength.and : EncodedLength.Statement (.and) :=
  show 1 = lengthOf 0x41 by decide
theorem EncodedLength.rx : EncodedLength.Statement (.rx) :=
  show 1 = lengthOf 0x42 by decide
theorem EncodedLength.bc : EncodedLength.Statement (.bc) :=
  show 1 = lengthOf 0x43 by decide
theorem EncodedLength.add : EncodedLength.Statement (.add) :=
  show 1 = lengthOf 0x44 by decide
theorem EncodedLength.sub : EncodedLength.Statement (.sub) :=
  show 1 = lengthOf 0x45 by decide
theorem EncodedLength.ladd : EncodedLength.Statement (.ladd) :=
  show 1 = lengthOf 0x46 by decide
theorem EncodedLength.lsub : EncodedLength.Statement (.lsub) :=
  show 1 = lengthOf 0x47 by decide
theorem EncodedLength.dup : EncodedLength.Statement (.dup) :=
  show 1 = lengthOf 0x48 by decide
theorem EncodedLength.dis : EncodedLength.Statement (.dis) :=
  show 1 = lengthOf 0x49 by decide
theorem EncodedLength.xop4A : EncodedLength.Statement (.xop4A) :=
  show 1 = lengthOf 0x4A by decide
theorem EncodedLength.exdis : EncodedLength.Statement (.exdis) :=
  show 1 = lengthOf 0x4B by decide
theorem EncodedLength.sfc : EncodedLength.Statement (.sfc) :=
  show 1 = lengthOf 0x4C by decide
theorem EncodedLength.sfci : EncodedLength.Statement (.sfci) :=
  show 1 = lengthOf 0x4D by decide
theorem EncodedLength.retn : EncodedLength.Statement (.retn) :=
  show 1 = lengthOf 0x4E by decide
theorem EncodedLength.jsd : EncodedLength.Statement (.jsd) :=
  show 1 = lengthOf 0x4F by decide
theorem EncodedLength.xop50 : EncodedLength.Statement (.xop50) :=
  show 1 = lengthOf 0x50 by decide
theorem EncodedLength.xop51 : EncodedLength.Statement (.xop51) :=
  show 1 = lengthOf 0x51 by decide
theorem EncodedLength.xop52 : EncodedLength.Statement (.xop52) :=
  show 1 = lengthOf 0x52 by decide
theorem EncodedLength.xop53 : EncodedLength.Statement (.xop53) :=
  show 1 = lengthOf 0x53 by decide
theorem EncodedLength.kfc : EncodedLength.Statement (.kfc) :=
  show 1 = lengthOf 0x54 by decide
theorem EncodedLength.xop55 : EncodedLength.Statement (.xop55) :=
  show 1 = lengthOf 0x55 by decide
theorem EncodedLength.j1 : EncodedLength.Statement (.j1) :=
  show 1 = lengthOf 0x56 by decide
theorem EncodedLength.jsr : EncodedLength.Statement (.jsr) :=
  show 1 = lengthOf 0x57 by decide
theorem EncodedLength.xop58 : EncodedLength.Statement (.xop58) :=
  show 1 = lengthOf 0x58 by decide
theorem EncodedLength.xop59 : EncodedLength.Statement (.xop59) :=
  show 1 = lengthOf 0x59 by decide
theorem EncodedLength.xop5A : EncodedLength.Statement (.xop5A) :=
  show 1 = lengthOf 0x5A by decide
theorem EncodedLength.xop5B : EncodedLength.Statement (.xop5B) :=
  show 1 = lengthOf 0x5B by decide
theorem EncodedLength.xop5C : EncodedLength.Statement (.xop5C) :=
  show 1 = lengthOf 0x5C by decide
theorem EncodedLength.xop5D : EncodedLength.Statement (.xop5D) :=
  show 1 = lengthOf 0x5D by decide
theorem EncodedLength.xop5E : EncodedLength.Statement (.xop5E) :=
  show 1 = lengthOf 0x5E by decide
theorem EncodedLength.xop5F : EncodedLength.Statement (.xop5F) :=
  show 1 = lengthOf 0x5F by decide
theorem EncodedLength.lr0 : EncodedLength.Statement (.lr0) :=
  show 1 = lengthOf 0x60 by decide
theorem EncodedLength.lr1 : EncodedLength.Statement (.lr1) :=
  show 1 = lengthOf 0x61 by decide
theorem EncodedLength.lr2 : EncodedLength.Statement (.lr2) :=
  show 1 = lengthOf 0x62 by decide
theorem EncodedLength.lr3 : EncodedLength.Statement (.lr3) :=
  show 1 = lengthOf 0x63 by decide
theorem EncodedLength.lr4 : EncodedLength.Statement (.lr4) :=
  show 1 = lengthOf 0x64 by decide
theorem EncodedLength.lr5 : EncodedLength.Statement (.lr5) :=
  show 1 = lengthOf 0x65 by decide
theorem EncodedLength.lr6 : EncodedLength.Statement (.lr6) :=
  show 1 = lengthOf 0x66 by decide
theorem EncodedLength.lr7 : EncodedLength.Statement (.lr7) :=
  show 1 = lengthOf 0x67 by decide
theorem EncodedLength.lr8 : EncodedLength.Statement (.lr8) :=
  show 1 = lengthOf 0x68 by decide
theorem EncodedLength.lr9 : EncodedLength.Statement (.lr9) :=
  show 1 = lengthOf 0x69 by decide
theorem EncodedLength.lr10 : EncodedLength.Statement (.lr10) :=
  show 1 = lengthOf 0x6A by decide
theorem EncodedLength.lr11 : EncodedLength.Statement (.lr11) :=
  show 1 = lengthOf 0x6B by decide
theorem EncodedLength.lr12 : EncodedLength.Statement (.lr12) :=
  show 1 = lengthOf 0x6C by decide
theorem EncodedLength.lr13 : EncodedLength.Statement (.lr13) :=
  show 1 = lengthOf 0x6D by decide
theorem EncodedLength.lr14 : EncodedLength.Statement (.lr14) :=
  show 1 = lengthOf 0x6E by decide
theorem EncodedLength.lr15 : EncodedLength.Statement (.lr15) :=
  show 1 = lengthOf 0x6F by decide
theorem EncodedLength.sr0 : EncodedLength.Statement (.sr0) :=
  show 1 = lengthOf 0x70 by decide
theorem EncodedLength.sr1 : EncodedLength.Statement (.sr1) :=
  show 1 = lengthOf 0x71 by decide
theorem EncodedLength.sr2 : EncodedLength.Statement (.sr2) :=
  show 1 = lengthOf 0x72 by decide
theorem EncodedLength.sr3 : EncodedLength.Statement (.sr3) :=
  show 1 = lengthOf 0x73 by decide
theorem EncodedLength.sr4 : EncodedLength.Statement (.sr4) :=
  show 1 = lengthOf 0x74 by decide
theorem EncodedLength.sr5 : EncodedLength.Statement (.sr5) :=
  show 1 = lengthOf 0x75 by decide
theorem EncodedLength.sr6 : EncodedLength.Statement (.sr6) :=
  show 1 = lengthOf 0x76 by decide
theorem EncodedLength.sr7 : EncodedLength.Statement (.sr7) :=
  show 1 = lengthOf 0x77 by decide
theorem EncodedLength.sr8 : EncodedLength.Statement (.sr8) :=
  show 1 = lengthOf 0x78 by decide
theorem EncodedLength.sr9 : EncodedLength.Statement (.sr9) :=
  show 1 = lengthOf 0x79 by decide
theorem EncodedLength.sr10 : EncodedLength.Statement (.sr10) :=
  show 1 = lengthOf 0x7A by decide
theorem EncodedLength.sr11 : EncodedLength.Statement (.sr11) :=
  show 1 = lengthOf 0x7B by decide
theorem EncodedLength.sr12 : EncodedLength.Statement (.sr12) :=
  show 1 = lengthOf 0x7C by decide
theorem EncodedLength.sr13 : EncodedLength.Statement (.sr13) :=
  show 1 = lengthOf 0x7D by decide
theorem EncodedLength.sr14 : EncodedLength.Statement (.sr14) :=
  show 1 = lengthOf 0x7E by decide
theorem EncodedLength.sr15 : EncodedLength.Statement (.sr15) :=
  show 1 = lengthOf 0x7F by decide
theorem EncodedLength.qor (sel : QrSel) (srcB : Src) : EncodedLength.Statement (.qor sel srcB) :=
  show 2 = lengthOf 0x80 by decide
theorem EncodedLength.qand (sel : QrSel) (srcB : Src) : EncodedLength.Statement (.qand sel srcB) :=
  show 2 = lengthOf 0x81 by decide
theorem EncodedLength.qrx (sel : QrSel) (srcB : Src) : EncodedLength.Statement (.qrx sel srcB) :=
  show 2 = lengthOf 0x82 by decide
theorem EncodedLength.qbc (sel : QrSel) (srcB : Src) : EncodedLength.Statement (.qbc sel srcB) :=
  show 2 = lengthOf 0x83 by decide
theorem EncodedLength.qadd (sel : QrSel) (srcB : Src) : EncodedLength.Statement (.qadd sel srcB) :=
  show 2 = lengthOf 0x84 by decide
theorem EncodedLength.qsub (sel : QrSel) (srcB : Src) : EncodedLength.Statement (.qsub sel srcB) :=
  show 2 = lengthOf 0x85 by decide
theorem EncodedLength.qladd (sel : QrSel) (srcB : Src) : EncodedLength.Statement (.qladd sel srcB) :=
  show 2 = lengthOf 0x86 by decide
theorem EncodedLength.qlsub (sel : QrSel) (srcB : Src) : EncodedLength.Statement (.qlsub sel srcB) :=
  show 2 = lengthOf 0x87 by decide
theorem EncodedLength.als (alpha : Byte) : EncodedLength.Statement (.als alpha) :=
  show 2 = lengthOf 0x88 by decide
theorem EncodedLength.al (alpha : Byte) : EncodedLength.Statement (.al alpha) :=
  show 2 = lengthOf 0x89 by decide
theorem EncodedLength.asl (alpha : Byte) : EncodedLength.Statement (.asl alpha) :=
  show 2 = lengthOf 0x8A by decide
theorem EncodedLength.as (alpha : Byte) : EncodedLength.Statement (.as alpha) :=
  show 2 = lengthOf 0x8B by decide
theorem EncodedLength.cst (alpha : Byte) : EncodedLength.Statement (.cst alpha) :=
  show 2 = lengthOf 0x8C by decide
theorem EncodedLength.xop8D (alpha : Byte) : EncodedLength.Statement (.xop8D alpha) :=
  show 2 = lengthOf 0x8D by decide
theorem EncodedLength.ret (alpha : Byte) : EncodedLength.Statement (.ret alpha) :=
  show 2 = lengthOf 0x8E by decide
theorem EncodedLength.xop8F (alpha : Byte) : EncodedLength.Statement (.xop8F alpha) :=
  show 2 = lengthOf 0x8F by decide
theorem EncodedLength.lip (alpha : Byte) : EncodedLength.Statement (.lip alpha) :=
  show 2 = lengthOf 0x90 by decide
theorem EncodedLength.sip (alpha : Byte) : EncodedLength.Statement (.sip alpha) :=
  show 2 = lengthOf 0x91 by decide
theorem EncodedLength.lib (alpha : Byte) : EncodedLength.Statement (.lib alpha) :=
  show 2 = lengthOf 0x92 by decide
theorem EncodedLength.xop93 (alpha : Byte) : EncodedLength.Statement (.xop93 alpha) :=
  show 2 = lengthOf 0x93 by decide
theorem EncodedLength.addb (alpha : Byte) : EncodedLength.Statement (.addb alpha) :=
  show 2 = lengthOf 0x94 by decide
theorem EncodedLength.subb (alpha : Byte) : EncodedLength.Statement (.subb alpha) :=
  show 2 = lengthOf 0x95 by decide
theorem EncodedLength.j2 (alpha : Byte) : EncodedLength.Statement (.j2 alpha) :=
  show 2 = lengthOf 0x96 by decide
theorem EncodedLength.jb (alpha : Byte) : EncodedLength.Statement (.jb alpha) :=
  show 2 = lengthOf 0x97 by decide
theorem EncodedLength.rb (alpha : Byte) : EncodedLength.Statement (.rb alpha) :=
  show 2 = lengthOf 0x98 by decide
theorem EncodedLength.wb (alpha : Byte) : EncodedLength.Statement (.wb alpha) :=
  show 2 = lengthOf 0x99 by decide
theorem EncodedLength.rsb (alpha : Byte) : EncodedLength.Statement (.rsb alpha) :=
  show 2 = lengthOf 0x9A by decide
theorem EncodedLength.wsb (alpha : Byte) : EncodedLength.Statement (.wsb alpha) :=
  show 2 = lengthOf 0x9B by decide
theorem EncodedLength.xop9C (alpha : Byte) : EncodedLength.Statement (.xop9C alpha) :=
  show 2 = lengthOf 0x9C by decide
theorem EncodedLength.xop9D (alpha : Byte) : EncodedLength.Statement (.xop9D alpha) :=
  show 2 = lengthOf 0x9D by decide
theorem EncodedLength.xop9E (alpha : Byte) : EncodedLength.Statement (.xop9E alpha) :=
  show 2 = lengthOf 0x9E by decide
theorem EncodedLength.psb (alpha : Byte) : EncodedLength.Statement (.psb alpha) :=
  show 2 = lengthOf 0x9F by decide
theorem EncodedLength.lri0 (alpha : Byte) : EncodedLength.Statement (.lri0 alpha) :=
  show 2 = lengthOf 0xA0 by decide
theorem EncodedLength.lri1 (alpha : Byte) : EncodedLength.Statement (.lri1 alpha) :=
  show 2 = lengthOf 0xA1 by decide
theorem EncodedLength.lri2 (alpha : Byte) : EncodedLength.Statement (.lri2 alpha) :=
  show 2 = lengthOf 0xA2 by decide
theorem EncodedLength.lri3 (alpha : Byte) : EncodedLength.Statement (.lri3 alpha) :=
  show 2 = lengthOf 0xA3 by decide
theorem EncodedLength.lri4 (alpha : Byte) : EncodedLength.Statement (.lri4 alpha) :=
  show 2 = lengthOf 0xA4 by decide
theorem EncodedLength.lri5 (alpha : Byte) : EncodedLength.Statement (.lri5 alpha) :=
  show 2 = lengthOf 0xA5 by decide
theorem EncodedLength.lri6 (alpha : Byte) : EncodedLength.Statement (.lri6 alpha) :=
  show 2 = lengthOf 0xA6 by decide
theorem EncodedLength.lri7 (alpha : Byte) : EncodedLength.Statement (.lri7 alpha) :=
  show 2 = lengthOf 0xA7 by decide
theorem EncodedLength.lri8 (alpha : Byte) : EncodedLength.Statement (.lri8 alpha) :=
  show 2 = lengthOf 0xA8 by decide
theorem EncodedLength.lri9 (alpha : Byte) : EncodedLength.Statement (.lri9 alpha) :=
  show 2 = lengthOf 0xA9 by decide
theorem EncodedLength.lri10 (alpha : Byte) : EncodedLength.Statement (.lri10 alpha) :=
  show 2 = lengthOf 0xAA by decide
theorem EncodedLength.lri11 (alpha : Byte) : EncodedLength.Statement (.lri11 alpha) :=
  show 2 = lengthOf 0xAB by decide
theorem EncodedLength.lri12 (alpha : Byte) : EncodedLength.Statement (.lri12 alpha) :=
  show 2 = lengthOf 0xAC by decide
theorem EncodedLength.lri13 (alpha : Byte) : EncodedLength.Statement (.lri13 alpha) :=
  show 2 = lengthOf 0xAD by decide
theorem EncodedLength.lri14 (alpha : Byte) : EncodedLength.Statement (.lri14 alpha) :=
  show 2 = lengthOf 0xAE by decide
theorem EncodedLength.lri15 (alpha : Byte) : EncodedLength.Statement (.lri15 alpha) :=
  show 2 = lengthOf 0xAF by decide
theorem EncodedLength.sri0 (alpha : Byte) : EncodedLength.Statement (.sri0 alpha) :=
  show 2 = lengthOf 0xB0 by decide
theorem EncodedLength.sri1 (alpha : Byte) : EncodedLength.Statement (.sri1 alpha) :=
  show 2 = lengthOf 0xB1 by decide
theorem EncodedLength.sri2 (alpha : Byte) : EncodedLength.Statement (.sri2 alpha) :=
  show 2 = lengthOf 0xB2 by decide
theorem EncodedLength.sri3 (alpha : Byte) : EncodedLength.Statement (.sri3 alpha) :=
  show 2 = lengthOf 0xB3 by decide
theorem EncodedLength.sri4 (alpha : Byte) : EncodedLength.Statement (.sri4 alpha) :=
  show 2 = lengthOf 0xB4 by decide
theorem EncodedLength.sri5 (alpha : Byte) : EncodedLength.Statement (.sri5 alpha) :=
  show 2 = lengthOf 0xB5 by decide
theorem EncodedLength.sri6 (alpha : Byte) : EncodedLength.Statement (.sri6 alpha) :=
  show 2 = lengthOf 0xB6 by decide
theorem EncodedLength.sri7 (alpha : Byte) : EncodedLength.Statement (.sri7 alpha) :=
  show 2 = lengthOf 0xB7 by decide
theorem EncodedLength.sri8 (alpha : Byte) : EncodedLength.Statement (.sri8 alpha) :=
  show 2 = lengthOf 0xB8 by decide
theorem EncodedLength.sri9 (alpha : Byte) : EncodedLength.Statement (.sri9 alpha) :=
  show 2 = lengthOf 0xB9 by decide
theorem EncodedLength.sri10 (alpha : Byte) : EncodedLength.Statement (.sri10 alpha) :=
  show 2 = lengthOf 0xBA by decide
theorem EncodedLength.sri11 (alpha : Byte) : EncodedLength.Statement (.sri11 alpha) :=
  show 2 = lengthOf 0xBB by decide
theorem EncodedLength.sri12 (alpha : Byte) : EncodedLength.Statement (.sri12 alpha) :=
  show 2 = lengthOf 0xBC by decide
theorem EncodedLength.sri13 (alpha : Byte) : EncodedLength.Statement (.sri13 alpha) :=
  show 2 = lengthOf 0xBD by decide
theorem EncodedLength.sri14 (alpha : Byte) : EncodedLength.Statement (.sri14 alpha) :=
  show 2 = lengthOf 0xBE by decide
theorem EncodedLength.sri15 (alpha : Byte) : EncodedLength.Statement (.sri15 alpha) :=
  show 2 = lengthOf 0xBF by decide
theorem EncodedLength.ror (srcA srcB : Src) (dst : Dst) : EncodedLength.Statement (.ror srcA srcB dst) :=
  show 3 = lengthOf 0xC0 by decide
theorem EncodedLength.rand (srcA srcB : Src) (dst : Dst) : EncodedLength.Statement (.rand srcA srcB dst) :=
  show 3 = lengthOf 0xC1 by decide
theorem EncodedLength.rrx (srcA srcB : Src) (dst : Dst) : EncodedLength.Statement (.rrx srcA srcB dst) :=
  show 3 = lengthOf 0xC2 by decide
theorem EncodedLength.rbc (srcA srcB : Src) (dst : Dst) : EncodedLength.Statement (.rbc srcA srcB dst) :=
  show 3 = lengthOf 0xC3 by decide
theorem EncodedLength.radd (srcA srcB : Src) (dst : Dst) : EncodedLength.Statement (.radd srcA srcB dst) :=
  show 3 = lengthOf 0xC4 by decide
theorem EncodedLength.rsub (srcA srcB : Src) (dst : Dst) : EncodedLength.Statement (.rsub srcA srcB dst) :=
  show 3 = lengthOf 0xC5 by decide
theorem EncodedLength.rladd (srcA srcB : Src) (dst : Dst) : EncodedLength.Statement (.rladd srcA srcB dst) :=
  show 3 = lengthOf 0xC6 by decide
theorem EncodedLength.rlsub (srcA srcB : Src) (dst : Dst) : EncodedLength.Statement (.rlsub srcA srcB dst) :=
  show 3 = lengthOf 0xC7 by decide
theorem EncodedLength.rxor (srcA srcB : Src) (dst : Dst) : EncodedLength.Statement (.rxor srcA srcB dst) :=
  show 3 = lengthOf 0xC8 by decide
theorem EncodedLength.reservedC9 (alpha beta : Byte) : EncodedLength.Statement (.reservedC9 alpha beta) :=
  show 3 = lengthOf 0xC9 by decide
theorem EncodedLength.rfu (srcA srcB : Src) (dst : Dst) : EncodedLength.Statement (.rfu srcA srcB dst) :=
  show 3 = lengthOf 0xCA by decide
theorem EncodedLength.reservedCB (alpha beta : Byte) : EncodedLength.Statement (.reservedCB alpha beta) :=
  show 3 = lengthOf 0xCB by decide
theorem EncodedLength.rvadd (srcA srcB : Src) (dst : Dst) : EncodedLength.Statement (.rvadd srcA srcB dst) :=
  show 3 = lengthOf 0xCC by decide
theorem EncodedLength.rvsub (srcA srcB : Src) (dst : Dst) : EncodedLength.Statement (.rvsub srcA srcB dst) :=
  show 3 = lengthOf 0xCD by decide
theorem EncodedLength.ruadd (srcA srcB : Src) (dst : Dst) : EncodedLength.Statement (.ruadd srcA srcB dst) :=
  show 3 = lengthOf 0xCE by decide
theorem EncodedLength.rusub (srcA srcB : Src) (dst : Dst) : EncodedLength.Statement (.rusub srcA srcB dst) :=
  show 3 = lengthOf 0xCF by decide
theorem EncodedLength.lgf (alpha beta : Byte) : EncodedLength.Statement (.lgf alpha beta) :=
  show 3 = lengthOf 0xD0 by decide
theorem EncodedLength.lfc (alpha beta : Byte) : EncodedLength.Statement (.lfc alpha beta) :=
  show 3 = lengthOf 0xD1 by decide
theorem EncodedLength.lidb (alpha beta : Byte) : EncodedLength.Statement (.lidb alpha beta) :=
  show 3 = lengthOf 0xD2 by decide
theorem EncodedLength.fsdb (alpha beta : Byte) : EncodedLength.Statement (.fsdb alpha beta) :=
  show 3 = lengthOf 0xD3 by decide
theorem EncodedLength.adddb (alpha beta : Byte) : EncodedLength.Statement (.adddb alpha beta) :=
  show 3 = lengthOf 0xD4 by decide
theorem EncodedLength.subdb (alpha beta : Byte) : EncodedLength.Statement (.subdb alpha beta) :=
  show 3 = lengthOf 0xD5 by decide
theorem EncodedLength.j3 (alpha beta : Byte) : EncodedLength.Statement (.j3 alpha beta) :=
  show 3 = lengthOf 0xD6 by decide
theorem EncodedLength.jdb (alpha beta : Byte) : EncodedLength.Statement (.jdb alpha beta) :=
  show 3 = lengthOf 0xD7 by decide
theorem EncodedLength.rai (alpha : Byte) (betaL betaR : Nibble) : EncodedLength.Statement (.rai alpha betaL betaR) :=
  show 3 = lengthOf 0xD8 by decide
theorem EncodedLength.wai (alpha : Byte) (betaL betaR : Nibble) : EncodedLength.Statement (.wai alpha betaL betaR) :=
  show 3 = lengthOf 0xD9 by decide
theorem EncodedLength.rri (alpha : Byte) (betaL betaR : Nibble) : EncodedLength.Statement (.rri alpha betaL betaR) :=
  show 3 = lengthOf 0xDA by decide
theorem EncodedLength.wri (alpha : Byte) (betaL betaR : Nibble) : EncodedLength.Statement (.wri alpha betaL betaR) :=
  show 3 = lengthOf 0xDB by decide
theorem EncodedLength.ioda (alpha beta : Byte) : EncodedLength.Statement (.ioda alpha beta) :=
  show 3 = lengthOf 0xDC by decide
theorem EncodedLength.iod (alpha beta : Byte) : EncodedLength.Statement (.iod alpha beta) :=
  show 3 = lengthOf 0xDD by decide
theorem EncodedLength.ion (alpha beta : Byte) : EncodedLength.Statement (.ion alpha beta) :=
  show 3 = lengthOf 0xDE by decide
theorem EncodedLength.reservedDF (alpha beta : Byte) : EncodedLength.Statement (.reservedDF alpha beta) :=
  show 3 = lengthOf 0xDF by decide
theorem EncodedLength.reservedE0 (alpha beta : Byte) : EncodedLength.Statement (.reservedE0 alpha beta) :=
  show 3 = lengthOf 0xE0 by decide
theorem EncodedLength.rjeb (srcS : RjbSrc) (srcB : Src) (beta : Byte) : EncodedLength.Statement (.rjeb srcS srcB beta) :=
  show 3 = lengthOf 0xE1 by decide
theorem EncodedLength.rjlb (srcS : RjbSrc) (srcB : Src) (beta : Byte) : EncodedLength.Statement (.rjlb srcS srcB beta) :=
  show 3 = lengthOf 0xE2 by decide
theorem EncodedLength.rjleb (srcS : RjbSrc) (srcB : Src) (beta : Byte) : EncodedLength.Statement (.rjleb srcS srcB beta) :=
  show 3 = lengthOf 0xE3 by decide
theorem EncodedLength.reservedE4 (alpha beta : Byte) : EncodedLength.Statement (.reservedE4 alpha beta) :=
  show 3 = lengthOf 0xE4 by decide
theorem EncodedLength.rjneb (srcS : RjbSrc) (srcB : Src) (beta : Byte) : EncodedLength.Statement (.rjneb srcS srcB beta) :=
  show 3 = lengthOf 0xE5 by decide
theorem EncodedLength.rjgeb (srcS : RjbSrc) (srcB : Src) (beta : Byte) : EncodedLength.Statement (.rjgeb srcS srcB beta) :=
  show 3 = lengthOf 0xE6 by decide
theorem EncodedLength.rjgb (srcS : RjbSrc) (srcB : Src) (beta : Byte) : EncodedLength.Statement (.rjgb srcS srcB beta) :=
  show 3 = lengthOf 0xE7 by decide
theorem EncodedLength.reservedE8 (alpha beta : Byte) : EncodedLength.Statement (.reservedE8 alpha beta) :=
  show 3 = lengthOf 0xE8 by decide
theorem EncodedLength.rjnebj (srcS : RjbSrc) (srcB : Src) (beta : Byte) : EncodedLength.Statement (.rjnebj srcS srcB beta) :=
  show 3 = lengthOf 0xE9 by decide
theorem EncodedLength.rjgebj (srcS : RjbSrc) (srcB : Src) (beta : Byte) : EncodedLength.Statement (.rjgebj srcS srcB beta) :=
  show 3 = lengthOf 0xEA by decide
theorem EncodedLength.rjgbj (srcS : RjbSrc) (srcB : Src) (beta : Byte) : EncodedLength.Statement (.rjgbj srcS srcB beta) :=
  show 3 = lengthOf 0xEB by decide
theorem EncodedLength.reservedEC (alpha beta : Byte) : EncodedLength.Statement (.reservedEC alpha beta) :=
  show 3 = lengthOf 0xEC by decide
theorem EncodedLength.rjebj (srcS : RjbSrc) (srcB : Src) (beta : Byte) : EncodedLength.Statement (.rjebj srcS srcB beta) :=
  show 3 = lengthOf 0xED by decide
theorem EncodedLength.rjlbj (srcS : RjbSrc) (srcB : Src) (beta : Byte) : EncodedLength.Statement (.rjlbj srcS srcB beta) :=
  show 3 = lengthOf 0xEE by decide
theorem EncodedLength.rjlebj (srcS : RjbSrc) (srcB : Src) (beta : Byte) : EncodedLength.Statement (.rjlebj srcS srcB beta) :=
  show 3 = lengthOf 0xEF by decide
theorem EncodedLength.jebb (alpha beta : Byte) : EncodedLength.Statement (.jebb alpha beta) :=
  show 3 = lengthOf 0xF0 by decide
theorem EncodedLength.jnebb (alpha beta : Byte) : EncodedLength.Statement (.jnebb alpha beta) :=
  show 3 = lengthOf 0xF1 by decide
theorem EncodedLength.jebbj (alpha beta : Byte) : EncodedLength.Statement (.jebbj alpha beta) :=
  show 3 = lengthOf 0xF2 by decide
theorem EncodedLength.jnebbj (alpha beta : Byte) : EncodedLength.Statement (.jnebbj alpha beta) :=
  show 3 = lengthOf 0xF3 by decide
theorem EncodedLength.xopF4 (alpha beta : Byte) : EncodedLength.Statement (.xopF4 alpha beta) :=
  show 3 = lengthOf 0xF4 by decide
theorem EncodedLength.xopF5 (alpha beta : Byte) : EncodedLength.Statement (.xopF5 alpha beta) :=
  show 3 = lengthOf 0xF5 by decide
theorem EncodedLength.xopF6 (alpha beta : Byte) : EncodedLength.Statement (.xopF6 alpha beta) :=
  show 3 = lengthOf 0xF6 by decide
theorem EncodedLength.xopF7 (alpha beta : Byte) : EncodedLength.Statement (.xopF7 alpha beta) :=
  show 3 = lengthOf 0xF7 by decide
theorem EncodedLength.shl (alpha beta : Byte) : EncodedLength.Statement (.shl alpha beta) :=
  show 3 = lengthOf 0xF8 by decide
theorem EncodedLength.shr (alpha beta : Byte) : EncodedLength.Statement (.shr alpha beta) :=
  show 3 = lengthOf 0xF9 by decide
theorem EncodedLength.shdl (alpha beta : Byte) : EncodedLength.Statement (.shdl alpha beta) :=
  show 3 = lengthOf 0xFA by decide
theorem EncodedLength.shdr (alpha beta : Byte) : EncodedLength.Statement (.shdr alpha beta) :=
  show 3 = lengthOf 0xFB by decide
theorem EncodedLength.xopFC (alpha beta : Byte) : EncodedLength.Statement (.xopFC alpha beta) :=
  show 3 = lengthOf 0xFC by decide
theorem EncodedLength.xopFD (alpha beta : Byte) : EncodedLength.Statement (.xopFD alpha beta) :=
  show 3 = lengthOf 0xFD by decide
theorem EncodedLength.xopFE (alpha beta : Byte) : EncodedLength.Statement (.xopFE alpha beta) :=
  show 3 = lengthOf 0xFE by decide
theorem EncodedLength.xopFF (alpha beta : Byte) : EncodedLength.Statement (.xopFF alpha beta) :=
  show 3 = lengthOf 0xFF by decide

end Sys2Proof.Laws
end

