-- ==== Sys2Proof/Tests/Slice0.lean ====
section
/-! SUPPORT. Tests. Expected results are the spec's own: the vectors X, E and V of 95_test_vectors.md and the
examples of the instruction rules, named in each docstring. Then, for each statement of Obligations.lean that has
hypotheses, a state and operands that meet them. -/
namespace Sys2Proof.Tests
open Sys2Proof.Machine

/-! ## Helpers -/

/-- A state with `S` = 12, `L` = 20 at `pc` = 0x100, the registers and memory words given, else as after reset. -/
def at12 (regs : List (StackIdx × Word)) (words : List (Word × Word)) : State :=
  regs.foldl (fun t p => t.writeR p.1 p.2)
    { State.reset with
      S := 12, L := 20, pc := 0x100
      mem := words.foldl (fun m p => Memory.writeWord m p.1 p.2) [] }

/-- The result is a next state with the property. -/
def onNext (r : Result) (p : State → Bool) : Bool :=
  match r with
  | .next t => p t
  | .fault _ => false
  | .refused _ => false

/-- The result is the fault. -/
def faults (r : Result) (f : Fault) : Bool :=
  match r with
  | .next _ => false
  | .fault g => f == g
  | .refused _ => false

/-- The result is the refusal. -/
def refuses (r : Result) (f : Refusal) : Bool :=
  match r with
  | .next _ => false
  | .fault _ => false
  | .refused g => f == g

/-! ## Well-formedness -/

/-- V156: Locals and AuxRegs in one instruction are no well-formed instruction. -/
theorem test_wf_refuses_locals_with_aux : Instr.wf (.ror (.aux 0) .top (.locals 1)) = false := by decide

/-- R216 holds of the destination too. -/
theorem test_wf_refuses_aux_destination : Instr.wf (.rvadd (.locals 3) (.const 1) (.aux 2)) = false := by decide

/-- V155: AuxRegs with a constant are well formed. -/
theorem test_wf_accepts_aux_alone : Instr.wf (.rand (.aux 3) (.const 4) (.aux 2)) = true := by decide

/-- V156: form RR refuses the mixture. -/
theorem test_rr_mixed_is_refused : refuses (exec (.ror (.aux 0) .top (.locals 1)) (at12 [] [])) (.illegalOperands 0xC0) = true := by decide


/-! ## Decoding (R71, R72, R85) -/

/-- E2. -/
theorem test_decode_lc0 : decode Specifiers.allGk7 [0x10] = .instr (.lc0) := by decide

/-- E3. -/
theorem test_decode_lc11 : decode Specifiers.allGk7 [0x1B] = .instr (.lc11) := by decide

/-- E3: 0x1C is no LC12. -/
theorem test_decode_xop1C : decode Specifiers.allGk7 [0x1C] = .instr (.xop1C) := by decide

/-- E5, V103: five bytes, not three. -/
theorem test_decode_subqb : decode Specifiers.allGk7 [0x35, 0, 0, 0, 0x0A] = .instr (.subqb 0 0 0 0x0A) := by decide

/-- E7. -/
theorem test_decode_ladd : decode Specifiers.allGk7 [0x46] = .instr (.ladd) := by decide

/-- E9. -/
theorem test_decode_lr15 : decode Specifiers.allGk7 [0x6F] = .instr (.lr15) := by decide

/-- E10. -/
theorem test_decode_sr15 : decode Specifiers.allGk7 [0x7F] = .instr (.sr15) := by decide

/-- E13. -/
theorem test_decode_sri15 : decode Specifiers.allGk7 [0xBF, 4] = .instr (.sri15 4) := by decide

/-- E15. -/
theorem test_decode_reservedC9 : decode Specifiers.allGk7 [0xC9, 0, 0] = .instr (.reservedC9 0 0) := by decide

/-- E19: 0xED is RJEBJ (its operand byte is log 10). -/
theorem test_decode_rjebj_opcode : decode Specifiers.allGk7 [0xED, 0x80, 5] = .instr (.rjebj .const0 (.locals 0) 5) := by decide

/-- R197: F0 05 0A. -/
theorem test_decode_jebb : decode Specifiers.allGk7 [0xF0, 5, 0x0A] = .instr (.jebb 5 0x0A) := by decide

/-- D2 12 34. -/
theorem test_decode_lidb : decode Specifiers.allGk7 [0xD2, 0x12, 0x34] = .instr (.lidb 0x12 0x34) := by decide

/-- R206, X4: DA 10 25 has BetaL 2 and BetaR 5. -/
theorem test_decode_rri : decode Specifiers.allGk7 [0xDA, 0x10, 0x25] = .instr (.rri 0x10 2 5) := by decide

/-- LIB 5. -/
theorem test_decode_lib : decode Specifiers.allGk7 [0x92, 5] = .instr (.lib 5) := by decide

/-- 0xC4 is RADD; the operand bytes are the configuration of log 10: c=2, all Locals, a=0, b=1. -/
theorem test_decode_radd : decode Specifiers.allGk7 [0xC4, 0x20, 0x01] = .instr (.radd (.locals 0) (.locals 1) (.locals 2)) := by decide

/-- Log 10: c=14 with aOpt, bOpt, cOpt, a=14, b=15 is Rc=[S+1]+, Ra=[S]-, Rb=[S-1]-. -/
theorem test_decode_radd_stack : decode Specifiers.allGk7 [0xC4, 0xEE, 0xEF] = .instr (.radd .topPop .belowPop .push) := by decide

/-- 0x84 is QADD; log 10: pair 2, Rb=Locals[3]. -/
theorem test_decode_qadd : decode Specifiers.allGk7 [0x84, 0x83] = .instr (.qadd .pushConst0 (.locals 3)) := by decide

/-- R89, log 10: field 15 with cOpt is no destination. -/
theorem test_decode_rr_illegal_destination : decode Specifiers.allGk7 [0xC4, 0xF2, 0x00] = .illegalOperands 0xC4 := by decide

/-- D22: a launch that gives DecodeRJB as a table; bytes it lists have its operands. -/
theorem test_decode_table : decode { Specifiers.unconfigured with rjb := .table [(5, .const1, .aux 3)] } [0xE2, 5, 0xFB] = .instr (.rjlb .const1 (.aux 3) 0xFB) := by decide

/-- D22: bytes the table does not list are refused. -/
theorem test_decode_table_refuses : decode { Specifiers.unconfigured with rjb := .table [(5, .const1, .aux 3)] } [0xE2, 4, 0xFB] = .illegalOperands 0xE2 := by decide

/-- R216: a table entry that mixes Locals and AuxRegs is refused. -/
theorem test_decode_table_mixed : decode { Specifiers.unconfigured with rr := .table [((1, 2), .aux 0, .top, .locals 1)] } [0xC0, 1, 2] = .illegalOperands 0xC0 := by decide

/-- An opcode whose operand bytes are missing is rejected by name. -/
theorem test_decode_truncated : decode Specifiers.allGk7 [0x32, 0xDE, 0xAD] = .truncated := by decide

/-- The stream 92 05 44: LIB 5 is two bytes. -/
theorem test_decode_ignores_later_bytes : decode Specifiers.allGk7 [0x92, 0x05, 0x44] = .instr (.lib 5) := by decide

/-- A table word holds its first byte in its low eight bits. -/
theorem test_table_word_bytes : decodeTableWord 40 0xEFBEADDE32 = some (.liqb 0xDE 0xAD 0xBE 0xEF) := by decide

/-- Bits above the table word are 0. -/
theorem test_table_word_short : decodeTableWord 8 0x92 = some (.lib 0) := by decide

/-- X1, X2, X5. -/
theorem test_operand_forms : alphaBeta 0x12 0x34 = 0x1234 ∧ alphaBetaS 0xFF 0xFE = 0xFFFFFFFE ∧ alphaBetaZ 0xFF 0xFE = 0xFFFE ∧ quad 0xDE 0xAD 0xBE 0xEF = 0xDEADBEEF ∧ byteS 0xF7 = 0xFFFFFFF7 ∧ byteZ 0xF7 = 0xF7 := by decide


/-! ## Form OI -/

/-- V2. -/
theorem test_add_carry_in : onNext (exec (.add) ({ at12 [(11, 3), (12, 4)] [] with carry := true })) (fun t => t.readR 11 == 8 && t.S == 11 && !t.carry && t.pc == 0x101) = true := by decide

/-- V3. -/
theorem test_add_overflow : faults (exec (.add) ({ at12 [(11, 0x7FFFFFFF), (12, 0)] [] with carry := true })) (.trap .overflow 0x100) = true := by decide

/-- V7. -/
theorem test_sub_borrow_in : onNext (exec (.sub) ({ at12 [(11, 0), (12, 0)] [] with carry := true })) (fun t => t.readR 11 == 0xFFFFFFFF && t.S == 11 && !t.carry) = true := by decide

/-- V9. -/
theorem test_sub_overflow : faults (exec (.sub) (at12 [(11, 0x7FFFFFFF), (12, 0xFFFFFFFF)] [])) (.trap .overflow 0x100) = true := by decide

/-- V6: the lower element is the minuend. -/
theorem test_sub_order : onNext (exec (.sub) (at12 [(11, 5), (12, 7)] [])) (fun t => t.readR 11 == 0xFFFFFFFE) = true := by decide

/-- V10. -/
theorem test_and : onNext (exec (.and) (at12 [(11, 0x0000FF00), (12, 0x0000F0F0)] [])) (fun t => t.readR 11 == 0x0000F000 && t.S == 11) = true := by decide

/-- V11. -/
theorem test_or : onNext (exec (.or) (at12 [(11, 0x0000FF00), (12, 0x0000F0F0)] [])) (fun t => t.readR 11 == 0x0000FFF0 && t.S == 11) = true := by decide

/-- V12. -/
theorem test_bc_pass : onNext (exec (.bc) (at12 [(11, 2), (12, 5)] [])) (fun t => t.S == 11 && t.readR 11 == 2 && t.readR 12 == 5) = true := by decide

/-- V13. -/
theorem test_bc_equal : faults (exec (.bc) (at12 [(11, 5), (12, 5)] [])) (.trap .boundsCheck 0x100) = true := by decide

/-- V16. -/
theorem test_dup : onNext (exec (.dup) (at12 [(12, 9)] [])) (fun t => t.readR 13 == 9 && t.S == 13) = true := by decide

/-- R104: S = 0 goes to NSTACK-1; the register keeps its value. -/
theorem test_dis_wraps : onNext (exec (.dis) ({ at12 [(12, 9)] [] with S := 0 })) (fun t => t.S == 127 && t.readR 12 == 9) = true := by decide

/-- V18. -/
theorem test_exdis : onNext (exec (.exdis) (at12 [(11, 1), (12, 2)] [])) (fun t => t.readR 11 == 2 && t.S == 11) = true := by decide

/-- V19. -/
theorem test_rx : onNext (exec (.rx) (at12 [(11, 0x2000), (12, 3)] [(0x2003, 9)])) (fun t => t.readR 11 == 9 && t.S == 11) = true := by decide

/-- R321: a word that holds no value. -/
theorem test_rx_unwritten : faults (exec (.rx) (at12 [(11, 0x2000), (12, 3)] [])) (.unwrittenWord 0x2003) = true := by decide

/-- V20. -/
theorem test_lc3 : onNext (exec (.lc3) ((at12 [] []).writeConst 3 0xABCD)) (fun t => t.readR 13 == 0xABCD && t.S == 13) = true := by decide

/-- V21. -/
theorem test_j1 : onNext (exec (.j1) (at12 [] [])) (fun t => t.pc == 0x101 && t.S == 12) = true := by decide

/-- V22. -/
theorem test_jsd : onNext (exec (.jsd) (at12 [(12, 0x2000)] [])) (fun t => t.pc == 0x2000 && t.S == 11) = true := by decide

/-- V23. -/
theorem test_jsr : onNext (exec (.jsr) (at12 [(12, 0xFFFFFFF0)] [])) (fun t => t.pc == 0xF0 && t.S == 11) = true := by decide

/-- V25. -/
theorem test_sfc : onNext (exec (.sfc) (at12 [(12, 0x3000)] [])) (fun t => t.pc == 0x3000 && t.S == 11 && t.CS == [{ ret := 0x101, savedL := 20 }]) = true := by decide

/-- V26. -/
theorem test_sfci : onNext (exec (.sfci) (at12 [(12, 0x2000)] [(0x2000, 0x3000)])) (fun t => t.pc == 0x3000 && t.S == 12 && t.CS == [{ ret := 0x101, savedL := 20 }]) = true := by decide

/-- V27. -/
theorem test_retn : onNext (exec (.retn) ({ at12 [] [] with L := 9, CS := [{ ret := 0x101, savedL := 4 }] })) (fun t => t.pc == 0x101 && t.L == 4 && t.S == 12 && t.CS == []) = true := by decide

/-- V28. -/
theorem test_retn_underflow : faults (exec (.retn) (at12 [] [])) (.trap .linkUnderflow 0x100) = true := by decide

/-- V29. -/
theorem test_kfc : onNext (exec (.kfc) (at12 [] [])) (fun t => t.kernel && !t.trapsEnabled && t.CS == [{ ret := 0x101, savedL := 20 }] && t.L == 20) = true := by decide

/-- V205. -/
theorem test_kfc_again : onNext (exec (.kfc) ({ at12 [] [] with kernel := true, trapsEnabled := false })) (fun t => t.kernel && !t.trapsEnabled) = true := by decide

/-- V30. -/
theorem test_ladd_no_carry_in : onNext (exec (.ladd) ({ at12 [(11, 3), (12, 4)] [] with carry := true })) (fun t => t.readR 11 == 7 && t.S == 11 && !t.carry) = true := by decide

/-- V31. -/
theorem test_lsub_nan : faults (exec (.lsub) ({ at12 [(11, 3), (12, 4)] [] with params := { State.resetParams with lispNaN := [(3, 4, 0xFFFFFFFF)] } })) (.trap .lispNaN 0x100) = true := by decide

/-- V204. -/
theorem test_add_masked : refuses (exec (.add) ({ { at12 [(11, 0x7FFFFFFF), (12, 0)] [] with carry := true } with trapsEnabled := false })) (.trapWhileDisabled .overflow) = true := by decide


/-! ## Form OB -/

/-- V41. -/
theorem test_addb : onNext (exec (.addb 0xFF) (at12 [] [])) (fun t => t.readR 12 == 255 && t.S == 12 && t.pc == 0x102) = true := by decide

/-- V42. -/
theorem test_addb_overflow : faults (exec (.addb 1) (at12 [(12, 0x7FFFFFFF)] [])) (.trap .overflow 0x100) = true := by decide

/-- V45. -/
theorem test_subb : onNext (exec (.subb 0) ({ at12 [(12, 5)] [] with carry := true })) (fun t => t.readR 12 == 4 && !t.carry) = true := by decide

/-- V44. -/
theorem test_subb_overflow : faults (exec (.subb 1) (at12 [(12, 0x80000000)] [])) (.trap .overflow 0x100) = true := by decide

/-- V47. -/
theorem test_al_wraps : onNext (exec (.al 0xFE) ({ at12 [] [] with L := 1 })) (fun t => t.L == 127 && t.S == 12) = true := by decide

/-- V48. -/
theorem test_als : onNext (exec (.als 0xFF) (at12 [] [])) (fun t => t.L == 11 && t.S == 12) = true := by decide

/-- V50. -/
theorem test_as : onNext (exec (.as 0xFD) (at12 [] [])) (fun t => t.S == 9) = true := by decide

/-- V51. -/
theorem test_asl : onNext (exec (.asl 3) ({ at12 [] [] with L := 4 })) (fun t => t.S == 7 && t.L == 4) = true := by decide

/-- V52. -/
theorem test_lib : onNext (exec (.lib 0xFF) (at12 [] [])) (fun t => t.readR 13 == 0xFF && t.S == 13) = true := by decide

/-- V54. -/
theorem test_jb_back : onNext (exec (.jb 0xFE) (at12 [] [])) (fun t => t.pc == 0xFE) = true := by decide

/-- V53. -/
theorem test_jb_forward : onNext (exec (.jb 5) (at12 [] [])) (fun t => t.pc == 0x105) = true := by decide

/-- V68. -/
theorem test_j2 : onNext (exec (.j2 0xAA) (at12 [] [])) (fun t => t.pc == 0x102) = true := by decide

/-- V56. -/
theorem test_rb : onNext (exec (.rb 3) (at12 [(12, 0x2000)] [(0x2003, 42)])) (fun t => t.readR 12 == 42 && t.S == 12) = true := by decide

/-- V57. -/
theorem test_rsb : onNext (exec (.rsb 3) (at12 [(12, 0x2000)] [(0x2003, 42)])) (fun t => t.readR 13 == 42 && t.S == 13 && t.readR 12 == 0x2000) = true := by decide

/-- V58. -/
theorem test_wb : onNext (exec (.wb 1) (at12 [(11, 7), (12, 0x2000)] [])) (fun t => Memory.readWord t.mem 0x2001 == some 7 && t.S == 10) = true := by decide

/-- V59. -/
theorem test_wsb : onNext (exec (.wsb 1) (at12 [(11, 0x2000), (12, 7)] [])) (fun t => Memory.readWord t.mem 0x2001 == some 7 && t.S == 10) = true := by decide

/-- V60. -/
theorem test_psb : onNext (exec (.psb 1) (at12 [(11, 0x2000), (12, 9)] [])) (fun t => Memory.readWord t.mem 0x2001 == some 9 && t.S == 11) = true := by decide

/-- V61. -/
theorem test_cst_swaps : onNext (exec (.cst 0) (at12 [(10, 0x2000), (11, 7), (12, 5)] [(0x2000, 5)])) (fun t => Memory.readWord t.mem 0x2000 == some 7 && t.readR 13 == 5 && t.S == 13) = true := by decide

/-- V62. -/
theorem test_cst_keeps : onNext (exec (.cst 0) (at12 [(10, 0x2000), (11, 7), (12, 5)] [(0x2000, 6)])) (fun t => Memory.readWord t.mem 0x2000 == some 6 && t.readR 13 == 6 && t.S == 13) = true := by decide

/-- V64. -/
theorem test_ret : onNext (exec (.ret 0xFF) ({ at12 [] [] with L := 11, CS := [{ ret := 0x105, savedL := 4 }] })) (fun t => t.S == 10 && t.pc == 0x105 && t.L == 4) = true := by decide

/-- R143. -/
theorem test_ret_underflow : faults (exec (.ret 0) (at12 [] [])) (.trap .linkUnderflow 0x100) = true := by decide

/-- R140: LIP 7 pushes PReg 7 (storage, log 18). -/
theorem test_lip : onNext (exec (.lip 7) ({ at12 [] [] with PReg := State.reset.PReg.set 7 33 })) (fun t => t.readR 13 == 33 && t.S == 13) = true := by decide

/-- V65: unconfigured, some word is pushed. -/
theorem test_lip_draw : onNext (exec (.lip 0xFD) ({ at12 [] [] with params := { State.resetParams with pregs := Vector.replicate 256 .unconfigured } })) (fun t => t.S == 13 && t.draws == 1) = true := by decide

/-- V66. -/
theorem test_sip_user : faults (exec (.sip 0xFD) (at12 [] [])) (.trap .kernelOnly 0x100) = true := by decide

/-- V67. -/
theorem test_sip_unconfigured : refuses (exec (.sip 0xFD) ({ at12 [] [] with kernel := true, params := { State.resetParams with pregs := Vector.replicate 256 .unconfigured } })) (.pregUnconfigured 0xFD) = true := by decide

/-- R145: SIP 7 writes PReg 7 and pops (storage, log 18). -/
theorem test_sip_own : onNext (exec (.sip 7) ({ at12 [(12, 33)] [] with kernel := true })) (fun t => t.PReg[7] == 33 && t.S == 11 && t.pc == 0x102) = true := by decide

/-- Log 18: a number that stands for S takes the low seven bits before the pop. -/
theorem test_sip_top : onNext (exec (.sip 1) ({ at12 [(12, 0x1FF)] [] with kernel := true, params := { State.resetParams with pregs := State.resetParams.pregs.set 1 { read := .own, write := .state .top } } })) (fun t => t.S == 126 && t.pc == 0x102) = true := by decide

/-- Log 18: a number that stands for L, zero-extended. -/
theorem test_lip_state : onNext (exec (.lip 2) ({ at12 [(12, 0x1FF)] [] with kernel := true, params := { State.resetParams with pregs := State.resetParams.pregs.set 2 { read := .state .frame, write := .ignore } } })) (fun t => t.readR 13 == 20 && t.draws == 0) = true := by decide


/-! ## Form ODB -/

/-- V80. -/
theorem test_adddb : onNext (exec (.adddb 0x12 0x34) (at12 [(12, 1)] [])) (fun t => t.readR 12 == 0x1235 && !t.carry && t.pc == 0x103) = true := by decide

/-- V81. -/
theorem test_adddb_overflow : faults (exec (.adddb 0xFF 0xFF) (at12 [(12, 0x7FFF0001)] [])) (.trap .overflow 0x100) = true := by decide

/-- V82. -/
theorem test_subdb : onNext (exec (.subdb 0 0x0A) (at12 [(12, 25)] [])) (fun t => t.readR 12 == 15) = true := by decide

/-- V83. -/
theorem test_lidb : onNext (exec (.lidb 0xFF 0xFF) (at12 [] [])) (fun t => t.readR 13 == 0xFFFF && t.S == 13) = true := by decide

/-- V84 at 0x100. -/
theorem test_jdb : onNext (exec (.jdb 0xFF 0xFD) (at12 [] [])) (fun t => t.pc == 0xFD) = true := by decide

/-- R163. -/
theorem test_j3 : onNext (exec (.j3 0 0) (at12 [] [])) (fun t => t.pc == 0x103) = true := by decide

/-- V86. -/
theorem test_lfc : onNext (exec (.lfc 0 6) ({ at12 [] [] with pc := 0x102 })) (fun t => t.pc == 0x108 && t.CS == [{ ret := 0x105, savedL := 20 }]) = true := by decide

/-- V87. -/
theorem test_lfc_back : onNext (exec (.lfc 0x80 0) ({ at12 [] [] with pc := 0x10000 })) (fun t => t.pc == 0x8000) = true := by decide

/-- V88. -/
theorem test_lgf : onNext (exec (.lgf 0 2) (((at12 [] [(0x5002, 11)]).writeAux 0 0x5000))) (fun t => t.readR 13 == 11 && t.S == 13) = true := by decide

/-- V89. -/
theorem test_fsdb : onNext (exec (.fsdb 0 0x20) (at12 [(12, 5)] [])) (fun t => t.Field == 0x25 && t.S == 11) = true := by decide

/-- V90: the top is written and S stays. -/
theorem test_shl : onNext (exec (.shl 0 4) (at12 [(11, 6)] [])) (fun t => t.S == 12 && t.readR 11 == 6) = true := by decide

/-- R175. -/
theorem test_shr : onNext (exec (.shr 0 4) (at12 [(11, 6)] [])) (fun t => t.S == 12 && t.readR 11 == 6) = true := by decide

/-- V91: S one lower. -/
theorem test_shdl : onNext (exec (.shdl 0 4) (at12 [(10, 6)] [])) (fun t => t.S == 11 && t.readR 10 == 6) = true := by decide

/-- V92: S one lower. -/
theorem test_shdr : onNext (exec (.shdr 0 4) (at12 [(10, 6)] [])) (fun t => t.S == 11 && t.readR 10 == 6) = true := by decide

/-- V93. -/
theorem test_iod_read : onNext (exec (.iod 0x40 1) ({ at12 [(11, 9), (12, 0x100)] [] with params := { State.resetParams with isRead := [1], isWrite := [2] } })) (fun t => t.S == 13 && t.draws == 1) = true := by decide

/-- V94 with the top 0x100. -/
theorem test_iod_write : onNext (exec (.iod 0x40 2) ({ at12 [(11, 9), (12, 0x100)] [] with params := { State.resetParams with isRead := [1], isWrite := [2] } })) (fun t => t.S == 11 && t.events == [.write 0x40 2 0x100]) = true := by decide

/-- V95. -/
theorem test_ion_read : onNext (exec (.ion 0x40 1) ({ at12 [(11, 9), (12, 0x100)] [] with params := { State.resetParams with isRead := [1], isWrite := [2] } })) (fun t => t.S == 12 && t.readR 12 == 0x100) = true := by decide

/-- R167. -/
theorem test_ion_write : onNext (exec (.ion 0x40 2) ({ at12 [(11, 9), (12, 0x100)] [] with params := { State.resetParams with isRead := [1], isWrite := [2] } })) (fun t => t.S == 12 && t.events == [.write 0x40 2 0x100]) = true := by decide

/-- V96. -/
theorem test_ioda_write : onNext (exec (.ioda 0x40 2) ({ at12 [(11, 9), (12, 0x100)] [] with params := { State.resetParams with isRead := [1], isWrite := [2] } })) (fun t => t.S == 10 && t.events == [.write 0x140 2 9]) = true := by decide

/-- R168: S stays. -/
theorem test_ioda_read : onNext (exec (.ioda 0x10 1) ({ at12 [(11, 9), (12, 0x100)] [] with params := { State.resetParams with isRead := [1], isWrite := [2] } })) (fun t => t.S == 12 && t.draws == 1) = true := by decide

/-- V97. -/
theorem test_iod_neither : refuses (exec (.iod 0x40 3) ({ at12 [(11, 9), (12, 0x100)] [] with params := { State.resetParams with isRead := [1], isWrite := [2] } })) (.illegalOperands 0xDD) = true := by decide


/-! ## Forms OQB and JBB -/

/-- V100. -/
theorem test_liqb : onNext (exec (.liqb 0xDE 0xAD 0xBE 0xEF) (at12 [] [])) (fun t => t.readR 13 == 0xDEADBEEF && t.S == 13 && t.pc == 0x105) = true := by decide

/-- V101. -/
theorem test_addqb : onNext (exec (.addqb 0xFF 0xFF 0xFF 0xFF) (at12 [(12, 5)] [])) (fun t => t.readR 12 == 4 && !t.carry) = true := by decide

/-- V102. -/
theorem test_addqb_overflow : faults (exec (.addqb 0xFF 0xFF 0xFF 0xFF) (at12 [(12, 0x80000000)] [])) (.trap .overflow 0x100) = true := by decide

/-- V103. -/
theorem test_subqb : onNext (exec (.subqb 0 0 0 0x0A) (at12 [(12, 25)] [])) (fun t => t.readR 12 == 15) = true := by decide

/-- V104. -/
theorem test_subqb_overflow : faults (exec (.subqb 0x80 0 0 0) (at12 [] [])) (.trap .overflow 0x100) = true := by decide

/-- V105. -/
theorem test_jqb : onNext (exec (.jqb 0 0 0x20 0) (at12 [] [])) (fun t => t.pc == 0x2000) = true := by decide

/-- V106. -/
theorem test_dfc : onNext (exec (.dfc 0 0 0x30 0) (at12 [] [])) (fun t => t.pc == 0x3000 && t.CS == [{ ret := 0x105, savedL := 20 }]) = true := by decide

/-- V107. -/
theorem test_j5 : onNext (exec (.j5 1 2 3 4) (at12 [] [])) (fun t => t.pc == 0x105) = true := by decide

/-- V110. -/
theorem test_jebb_taken : onNext (exec (.jebb 3 7) (at12 [(12, 3)] [])) (fun t => t.pc == 0x107 && t.S == 11) = true := by decide

/-- V111. -/
theorem test_jebb_not_taken : onNext (exec (.jebb 3 7) (at12 [(12, 4)] [])) (fun t => t.pc == 0x103 && t.S == 11) = true := by decide

/-- V113. -/
theorem test_jnebb_taken : onNext (exec (.jnebb 0 0xF7) ({ at12 [(12, 1)] [] with pc := 0x100F })) (fun t => t.pc == 0x1006 && t.S == 11) = true := by decide

/-- V114. -/
theorem test_jnebb_not_taken : onNext (exec (.jnebb 0 0xF7) ({ at12 [] [] with pc := 0x100F })) (fun t => t.pc == 0x1012 && t.S == 11) = true := by decide

/-- V115. -/
theorem test_jebbj : onNext (exec (.jebbj 3 7) (at12 [(12, 3)] [])) (fun t => t.pc == 0x107 && t.S == 11) = true := by decide

/-- V116. -/
theorem test_jnebbj : onNext (exec (.jnebbj 0 0xF7) ({ at12 [(12, 1)] [] with pc := 0x100F })) (fun t => t.pc == 0x1006 && t.S == 11) = true := by decide


/-! ## Forms LR, LRB and LRRB -/

/-- V120. -/
theorem test_lr3 : onNext (exec (.lr3) (at12 [(23, 9)] [])) (fun t => t.readR 13 == 9 && t.S == 13 && t.pc == 0x101) = true := by decide

/-- V123. -/
theorem test_lr15_wraps : onNext (exec (.lr15) ({ at12 [(7, 4)] [] with L := 120 })) (fun t => t.readR 13 == 4) = true := by decide

/-- V121. -/
theorem test_sr1 : onNext (exec (.sr1) (at12 [(12, 15)] [])) (fun t => t.readR 21 == 15 && t.S == 11) = true := by decide

/-- V124. -/
theorem test_lri2 : onNext (exec (.lri2 4) (at12 [(22, 0x2000)] [(0x2004, 77)])) (fun t => t.readR 13 == 77 && t.S == 13 && t.pc == 0x102) = true := by decide

/-- V125. -/
theorem test_sri2 : onNext (exec (.sri2 4) (at12 [(22, 0x2000), (12, 5)] [])) (fun t => Memory.readWord t.mem 0x2004 == some 5 && t.S == 11) = true := by decide

/-- V126. -/
theorem test_rri : onNext (exec (.rri 0x10 2 5) (at12 [(25, 0x3000)] [(0x3010, 8)])) (fun t => t.readR 22 == 8 && t.S == 12 && t.pc == 0x103) = true := by decide

/-- V127. -/
theorem test_rri_same : onNext (exec (.rri 0 2 2) (at12 [(22, 0x3000)] [(0x3000, 0x4000)])) (fun t => t.readR 22 == 0x4000) = true := by decide

/-- V128. -/
theorem test_wri : onNext (exec (.wri 0x10 2 5) (at12 [(25, 0x3000), (22, 6)] [])) (fun t => Memory.readWord t.mem 0x3010 == some 6) = true := by decide

/-- V129. -/
theorem test_rai : onNext (exec (.rai 2 3 1) (((at12 [] [(0x5002, 3)]).writeAux 1 0x5000))) (fun t => t.readR 23 == 3) = true := by decide

/-- V130. -/
theorem test_wai : onNext (exec (.wai 2 3 1) (((at12 [(23, 4)] []).writeAux 1 0x5000))) (fun t => Memory.readWord t.mem 0x5002 == some 4) = true := by decide


/-! ## Forms RR, QR and RJB -/

/-- V140. -/
theorem test_radd_push : onNext (exec (.radd .top .below .push) (at12 [(11, 3), (12, 4)] [])) (fun t => t.readR 13 == 7 && t.S == 13 && t.pc == 0x103) = true := by decide

/-- V141. -/
theorem test_radd_as_add : onNext (exec (.radd .topPop .belowPop .push) (at12 [(11, 3), (12, 4)] [])) (fun t => t.readR 11 == 7 && t.S == 11 && !t.carry) = true := by decide

/-- V145. -/
theorem test_rsub : onNext (exec (.rsub .top (.const 1) .top) ((at12 [(12, 5)] []).writeConst 1 1)) (fun t => t.readR 12 == 4) = true := by decide

/-- R233. -/
theorem test_rsub_overflow : faults (exec (.rsub .below .top .top) (at12 [(11, 0x80000000), (12, 1)] [])) (.trap .overflow 0x100) = true := by decide

/-- V146. -/
theorem test_ruadd : onNext (exec (.ruadd .top .below .top) (at12 [(11, 0x80000000), (12, 0x80000000)] [])) (fun t => t.readR 12 == 0 && t.carry) = true := by decide

/-- V147. -/
theorem test_ruadd_carry : onNext (exec (.ruadd .top .below .top) ({ at12 [(11, 0), (12, 0xFFFFFFFF)] [] with carry := true })) (fun t => t.readR 12 == 0 && t.carry) = true := by decide

/-- V149. -/
theorem test_rusub : onNext (exec (.rusub .top .below .top) (at12 [(11, 5), (12, 3)] [])) (fun t => t.readR 12 == 0xFFFFFFFE && t.carry) = true := by decide

/-- V150. -/
theorem test_rusub_equal : onNext (exec (.rusub .top .below .top) (at12 [(11, 5), (12, 5)] [])) (fun t => t.readR 12 == 0 && !t.carry) = true := by decide

/-- V152. -/
theorem test_rvadd : onNext (exec (.rvadd .top (.const 1) .top) ({ (at12 [(12, 0x7FFFFFFF)] []).writeConst 1 1 with carry := true })) (fun t => t.readR 12 == 0x80000000 && t.carry) = true := by decide

/-- V153. -/
theorem test_rvsub : onNext (exec (.rvsub .top (.const 1) .top) ((at12 [] []).writeConst 1 1)) (fun t => t.readR 12 == 0xFFFFFFFF) = true := by decide

/-- V154. -/
theorem test_rxor : onNext (exec (.rxor .top .top .top) (at12 [(12, 77)] [])) (fun t => t.readR 12 == 0) = true := by decide

/-- V155. -/
theorem test_rand : onNext (exec (.rand (.aux 3) (.const 4) (.aux 2)) (((at12 [] []).writeAux 3 0xFF0F).writeConst 4 0x0FF0)) (fun t => t.readAux 2 == 0x0F00) = true := by decide

/-- R231: moves the top to Aux[3] and pops. -/
theorem test_ror_move_and_pop : onNext (exec (.ror .topPop .top (.aux 3)) (at12 [(12, 6)] [])) (fun t => t.readAux 3 == 6 && t.S == 11) = true := by decide

/-- V157. -/
theorem test_rbc : onNext (exec (.rbc .top (.locals 0) .push) (at12 [(12, 2), (20, 5)] [])) (fun t => t.readR 13 == 2 && t.S == 13) = true := by decide

/-- V158. -/
theorem test_rbc_equal : faults (exec (.rbc .top (.locals 0) .push) (at12 [(12, 5), (20, 5)] [])) (.trap .boundsCheck 0x100) = true := by decide

/-- V159. -/
theorem test_rrx : onNext (exec (.rrx .top (.locals 1) .top) (at12 [(12, 0x2000), (21, 3)] [(0x2003, 9)])) (fun t => t.readR 12 == 9) = true := by decide

/-- V160: S stays. -/
theorem test_rfu : onNext (exec (.rfu .top .below .top) (at12 [(11, 1), (12, 2)] [])) (fun t => t.S == 12 && t.readR 11 == 1) = true := by decide

/-- V161. -/
theorem test_rladd : onNext (exec (.rladd .top .below .top) ({ at12 [(11, 3), (12, 4)] [] with carry := true })) (fun t => t.readR 12 == 7 && !t.carry) = true := by decide

/-- R230. -/
theorem test_rlsub : onNext (exec (.rlsub .top .below .top) ({ at12 [(11, 3), (12, 4)] [] with carry := true })) (fun t => t.readR 12 == 1 && !t.carry) = true := by decide

/-- R218: RC_BASE pre_pop writes above the old top. -/
theorem test_radd_pre_pop : onNext (exec (.radd .topPop .belowPop .push) ({ at12 [(11, 3), (12, 4)] [] with params := { State.resetParams with rcBase := .prePop } })) (fun t => t.readR 13 == 7 && t.S == 11) = true := by decide

/-- V162. -/
theorem test_qadd_in_place : onNext (exec (.qadd .inPlace (.const 1)) ((at12 [(12, 5)] []).writeConst 1 1)) (fun t => t.readR 12 == 6 && t.pc == 0x102 && t.S == 12) = true := by decide

/-- V163. -/
theorem test_qadd_push : onNext (exec (.qadd .pushTop (.const 1)) ((at12 [(12, 5)] []).writeConst 1 1)) (fun t => t.readR 13 == 6 && t.S == 13 && t.readR 12 == 5) = true := by decide

/-- V164. -/
theorem test_qsub_const : onNext (exec (.qsub .pushConst0 .top) (at12 [(12, 5)] [])) (fun t => t.readR 13 == 0xFFFFFFFB && t.S == 13) = true := by decide

/-- V165. -/
theorem test_qsub_pop : onNext (exec (.qsub .pushConst1 .topPop) ((at12 [(12, 5)] []).writeConst 1 1)) (fun t => t.readR 12 == 0xFFFFFFFC && t.S == 12) = true := by decide

/-- V166. -/
theorem test_qbc_equal : faults (exec (.qbc .inPlace (.locals 0)) (at12 [(12, 7), (20, 7)] [])) (.trap .boundsCheck 0x100) = true := by decide

/-- R242. -/
theorem test_qbc : onNext (exec (.qbc .pushTop (.locals 0)) (at12 [(12, 6), (20, 7)] [])) (fun t => t.readR 13 == 6 && t.S == 13) = true := by decide

/-- V167. -/
theorem test_qrx : onNext (exec (.qrx .inPlace (.const 2)) ((at12 [(12, 0x2000)] [(0x2002, 6)]).writeConst 2 2)) (fun t => t.readR 12 == 6) = true := by decide

/-- V168. -/
theorem test_qand : onNext (exec (.qand .pushTop (.const 3)) ((at12 [(12, 0xFF)] []).writeConst 3 0x0F)) (fun t => t.readR 13 == 0x0F && t.S == 13) = true := by decide

/-- V169. -/
theorem test_qor : onNext (exec (.qor .inPlace .below) (at12 [(11, 2), (12, 1)] [])) (fun t => t.readR 12 == 3) = true := by decide

/-- R243. -/
theorem test_qladd : onNext (exec (.qladd .inPlace .below) ({ at12 [(11, 2), (12, 1)] [] with carry := true })) (fun t => t.readR 12 == 3 && !t.carry) = true := by decide

/-- R244. -/
theorem test_qlsub : onNext (exec (.qlsub .inPlace .below) ({ at12 [(11, 2), (12, 1)] [] with carry := true })) (fun t => t.readR 12 == 0xFFFFFFFF && !t.carry) = true := by decide

/-- V180. -/
theorem test_rjeb_taken : onNext (exec (.rjeb .topPop (.locals 0) 5) (at12 [(12, 7), (20, 7)] [])) (fun t => t.pc == 0x105 && t.S == 11) = true := by decide

/-- V181. -/
theorem test_rjeb_not_taken : onNext (exec (.rjeb .topPop (.locals 0) 5) (at12 [(12, 7), (20, 8)] [])) (fun t => t.pc == 0x103 && t.S == 11) = true := by decide

/-- V182. -/
theorem test_rjneb : onNext (exec (.rjneb .const0 (.locals 2) 0xFA) (at12 [(22, 3)] [])) (fun t => t.pc == 0xFA) = true := by decide

/-- V183. -/
theorem test_rjlb : onNext (exec (.rjlb .top (.const 0) 9) (at12 [(12, 0xFFFFFFFF)] [])) (fun t => t.pc == 0x109 && t.S == 12) = true := by decide

/-- V185. -/
theorem test_rjleb : onNext (exec (.rjleb .top (.locals 1) 4) (at12 [(12, 3), (21, 3)] [])) (fun t => t.pc == 0x104) = true := by decide

/-- V186. -/
theorem test_rjgeb : onNext (exec (.rjgeb .top (.const 1) 8) ((at12 [] []).writeConst 1 1)) (fun t => t.pc == 0x103) = true := by decide

/-- V187. -/
theorem test_rjgb : onNext (exec (.rjgb .const0 .topPop 4) (at12 [(12, 0xFFFFFFFF)] [])) (fun t => t.pc == 0x104 && t.S == 11) = true := by decide

/-- V188. -/
theorem test_rjgb_equal : onNext (exec (.rjgb .const0 .topPop 4) (at12 [] [])) (fun t => t.pc == 0x103 && t.S == 11) = true := by decide

/-- V189. -/
theorem test_rjebj : onNext (exec (.rjebj .topPop (.locals 0) 5) (at12 [(12, 7), (20, 7)] [])) (fun t => t.pc == 0x105 && t.S == 11) = true := by decide

/-- V190. -/
theorem test_rjeb_two_pops : onNext (exec (.rjeb .topPop .belowPop 3) (at12 [] [])) (fun t => t.pc == 0x103 && t.S == 10) = true := by decide

/-- R262: as the plain opcode. -/
theorem test_rjnebj : onNext (exec (.rjnebj .top .below 8) (at12 [(11, 5), (12, 6)] [])) (fun t => t.pc == 0x108) = true := by decide

/-- R262: as the plain opcode. -/
theorem test_rjlbj : onNext (exec (.rjlbj .top .below 8) (at12 [(11, 6), (12, 5)] [])) (fun t => t.pc == 0x108) = true := by decide

/-- R262: as the plain opcode. -/
theorem test_rjlebj : onNext (exec (.rjlebj .top .below 8) (at12 [(11, 5), (12, 6)] [])) (fun t => t.pc == 0x103) = true := by decide

/-- R262: as the plain opcode. -/
theorem test_rjgebj : onNext (exec (.rjgebj .top .below 8) (at12 [(11, 5), (12, 6)] [])) (fun t => t.pc == 0x108) = true := by decide

/-- R262: as the plain opcode. -/
theorem test_rjgbj : onNext (exec (.rjgbj .top .below 8) (at12 [(11, 6), (12, 6)] [])) (fun t => t.pc == 0x103) = true := by decide


/-! ## Xop, reserved, fetch and step -/

/-- V200. -/
theorem test_xop00 : faults (exec (.xop00) (at12 [] [])) (.trap (.xop 0x00 []) 0x100) = true := by decide

/-- V201. -/
theorem test_xop2A : faults (exec (.xop2A 1 2 3 4) (at12 [] [])) (.trap (.xop 0x2A [1, 2, 3, 4]) 0x100) = true := by decide

/-- R276. -/
theorem test_xop_continues : onNext (exec (.xop2A 1 2 3 4) ({ at12 [] [] with params := { State.resetParams with xopContinues := true, instTrap := State.resetParams.instTrap.set 0x2A 0x400 } })) (fun t => t.pc == 0x400 && t.CS == [{ ret := 0x105, savedL := 20 }] && !t.kernel && t.trapsEnabled) = true := by decide

/-- R291. -/
theorem test_xop_masked : refuses (exec (.xop00) ({ at12 [] [] with trapsEnabled := false })) (.trapWhileDisabled (.xop 0x00 [])) = true := by decide

/-- V202. -/
theorem test_reservedC9 : refuses (exec (.reservedC9 0 0) (at12 [] [])) (.reserved 0xC9) = true := by decide

/-- V203. -/
theorem test_reservedDF : refuses (exec (.reservedDF 0 0) (at12 [] [])) (.reserved 0xDF) = true := by decide

/-- R34: a call with the link stack full. -/
theorem test_call_full : refuses (exec (.dfc 0 0 0x30 0) ({ at12 [] [] with params := { State.resetParams with csDepth := some 0 } })) (.linkStackFull) = true := by decide

/-- P1: the words 0x92059200 at 0x1000 begin with LIB 5. -/
theorem test_step_p1_first : onNext (step ({ at12 [] [(0x400, 0x92059200)] with pc := 0x1000 })) (fun t => t.readR 13 == 5 && t.S == 13 && t.pc == 0x1002) = true := by decide

/-- P2: LIQB at 0x205 straddles two words (here 0x207 on). -/
theorem test_step_straddles_words : onNext (step ({ at12 [] [(0x81, 0x00922A32), (0x82, 0x00002000)] with pc := 0x207 })) (fun t => t.readR 13 == 0x2000 && t.pc == 0x20C) = true := by decide

/-- D29: a fetch of a word the run has stored to. -/
theorem test_step_stored_code : refuses (step { at12 [] [(0x40, 0x56565656)] with stored := [0x40] }) (.storedCode 0x100) = true := by decide

/-- R321: a fetch of a byte that holds no value. -/
theorem test_step_unwritten : faults (step (at12 [] [])) (.unwrittenFetch 0x100) = true := by decide

/-- R89, D22: no decoder configured, QADD is refused. -/
theorem test_step_illegal_operands : refuses (step { at12 [] [(0x40, 0x84830000)] with params := { State.resetParams with specifiers := Specifiers.unconfigured } }) (.illegalOperands 0x84) = true := by decide

/-- R325, log 21: a run that has ended well stays. -/
theorem test_step_ended : onNext (step ({ at12 [] [] with params := { State.resetParams with pcExit := some 0x100 } })) (fun t => t.pc == 0x100 && t.S == 12) = true := by decide

/-- R54: a fetch outside the admitted words. -/
theorem test_step_not_admitted : refuses (step { at12 [] [] with params := { State.resetParams with admitted := [] } }) (.outsideLaunch 0x40) = true := by decide

/-- LIB 0x2A placed at the reset pc is the first instruction to run. -/
theorem test_fetch_word_at_reset : onNext (step (State.reset.withFetchWord 16 0x2A92)) (fun t => t.readR 1 == 0x2A && t.S == 1 && t.pc == 2) = true := by decide

/-! ## Witnesses
For each statement of Obligations.lean with hypotheses, a state and operands that meet them, at the ends of the
ranges where a clause has one. Where the only hypothesis is that the instruction is one of a list, the theorem
takes the statement and applies it to a listed instruction of a concrete state. -/

/-- A running state: LIB 0x2A at 0x100, a link on a link stack that is then full, one stored word. -/
def running : State :=
  { at12 [(11, 5), (12, 7)] [(0x40, 0x922A5600), (0x50, 9)] with
    CS := [{ ret := 0x105, savedL := 12 }], stored := [0x50]
    params := { State.resetParams with csDepth := some 1 } }

theorem witness_DecodeOfEncode :
    (Instr.wf (.radd (.locals 15) .belowPop .push) = true ∧ Specifiers.allGk7 = Specifiers.allGk7) ∧
    Instr.wf (.ruadd (.aux 0) (.const 11) (.aux 15)) = true ∧ Instr.wf (.qsub .pushConst1 (.aux 15)) = true ∧
    (Instr.wf (.liqb 1 2 3 4) = true ∧ usesSpecifiers (.liqb 1 2 3 4) = false) := by decide

theorem witness_LengthIsByOpcodeAlone :
    (([] : List Byte).length + 1 < lengthOf 0x92) ∧ (lengthOf 0x92 ≤ ([0x2A] : List Byte).length + 1) ∧
    (([1, 2, 3] : List Byte).length + 1 < lengthOf 0x3F) ∧
    (lengthOf 0x3F ≤ ([1, 2, 3, 4] : List Byte).length + 1) := by decide

/-- A launch whose decoders are tables: one entry each for QR and RJB, two for RR, the second mixing kinds. -/
def tables : Specifiers :=
  { rr := .table [((1, 2), .aux 0, .top, .push), ((1, 3), .aux 0, .top, .locals 1)]
    qr := .table [(0, .inPlace, .top)], rjb := .table [(255, .const1, .aux 3)] }

/-- A decoded instruction, a listed opcode of each form, and tables without a repeated entry. -/
theorem witness_DecodedInstructionsAreWellFormed (h : Obligations.DecodedInstructionsAreWellFormed) :
    decode tables [0xC0, 1, 2, 0xFF] = .instr (.ror (.aux 0) .top .push) ∧
    decode tables [0xCF, 1, 3] = .illegalOperands 0xCF ∧
    decode tables [0x80, 0] = .instr (.qor .inPlace .top) ∧
    decode tables [0xE1, 255, 7] = .instr (.rjeb .const1 (.aux 3) 7) ∧
    decodeRR tables 1 2 = some (.aux 0, .top, .push) ∧ decodeQR tables 0 = some (.inPlace, .top) ∧
    decodeRJB tables 255 = some (.const1, .aux 3) :=
  have t := h tables
  ⟨t.2.1 0xC0 .ror (by simp) 1 2 [0xFF], t.2.1 0xCF .rusub (by simp) 1 3 [], t.2.2.1 0x80 .qor (by simp) 0 [],
   t.2.2.2.1 0xE1 .rjeb (by simp) 255 7 [],
   (t.2.2.2.2.1 _ rfl (by decide) 1 2 (.aux 0) .top .push).mpr ⟨by decide, by decide⟩,
   (t.2.2.2.2.2.1 _ rfl (by decide) 0 .inPlace .top).mpr (by decide),
   (t.2.2.2.2.2.2 _ rfl (by decide) 255 .const1 (.aux 3)).mpr (by decide)⟩

theorem witness_OpcodesHaveTheListedStatus : decode tables [0xC9, 0, 0, 0, 0] = .instr (.reservedC9 0 0) ∧
    decode tables [0xFF, 1, 2, 0, 0] = .instr (.xopFF 1 2) ∧ decode tables [0x44, 0, 0, 0, 0] = .instr .add ∧
    decode Specifiers.allGk7 [0xC0, 0xF2, 0, 0, 0] = .illegalOperands 0xC0 := by decide

/-- LIB at 0x100; QADD at 0x100 of a launch without decoders; the exit address. -/
theorem witness_StepRunsTheDecodedInstruction (h : Obligations.StepRunsTheDecodedInstruction) :
    step running = exec (.lib 0x2A) running ∧
    (let s := { at12 [] [(0x40, 0x84830000)] with params := { State.resetParams with specifiers := Specifiers.unconfigured } }
     step s = .refused (.illegalOperands 0x84)) ∧
    (let s := { running with params := { running.params with pcExit := some 0x100 } }
     step s = .next s) := by
  refine ⟨(h.2 running 0x92 [0x2A] (by decide) (by decide) (fun k v e => ?_)).1 _ (by decide),
    (h.2 _ 0x84 [0x83] (by decide) (by decide) (fun k v e => ?_)).2 (by decide), h.1 _ (by decide)⟩ <;>
  · rcases k with _ | _ | k
    · cases e; exact ⟨by decide, by decide, by decide⟩
    · cases e; exact ⟨by decide, by decide, by decide⟩
    · cases e

theorem witness_PlacedInstructionIsTheNextToRun : decodeTableWord 16 0x2A92 = some (.lib 0x2A) ∧
    decodeTableWord 8 0x34 = some (.addqb 0 0 0 0) := by decide

/-- A stored word at the opcode byte itself, and at the second byte of a five-byte LIQB whose opcode byte is the last
of its word. -/
theorem witness_StoredWordsAreNeverFetched (h : Obligations.StoredWordsAreNeverFetched) :
    (onNext (step running) (fun t => t.pc == 0x102) = true ∧ 0x50 ∈ running.stored) ∧
    step { running with pc := 0x143 } = .refused (.storedCode 0x143) ∧
    step { at12 [] [(0x40, 0x32), (0x41, 0)] with pc := 0x103, stored := [0x41] } = .refused (.storedCode 0x104) :=
  ⟨by decide,
    h.2 _ [] 0x143 (State.fetchReaches_nil (by decide)) (by decide) (by decide) (by decide),
    h.2 _ [0x32] 0x104 (State.fetchReaches_one (by decide) ⟨by decide, by decide, by decide⟩ (by decide)) (by decide) (by decide) (by decide)⟩

set_option maxRecDepth 8000 in
theorem witness_StepKeepsWellFormedness :
    running.WF ∧ onNext (step running) (fun t => t.readR 13 == 0x2A) = true := by
  refine ⟨⟨by decide, by decide, by decide, by decide, fun d h => ?_, by decide, by decide, fun a h => ?_⟩, by decide⟩
  · cases h; decide
  · rcases List.mem_cons.mp h with rfl | h
    · exact ⟨by decide, 9, by decide⟩
    · cases h

/-- A launch, in kernel mode, whose PReg number `k` has the meaning `m`. -/
def withPReg (k : Fin 256) (m : PRegMeaning) : State :=
  { at12 [(11, 5), (12, 6)] [] with
    kernel := true, params := { State.resetParams with pregs := State.resetParams.pregs.set k m } }

theorem witness_OnlyKfcChangesTheModeBits :
    onNext (exec .kfc (at12 [] [])) (fun t => t.kernel) = true ∧ onNext (exec .add (at12 [] [])) (fun _ => true) = true ∧
    onNext (exec (.sip 255) { at12 [] [] with kernel := true, trapsEnabled := false }) (fun t => t.kernel) = true ∧
    (setsByPReg (withPReg 3 { read := .own, write := .state .kernel }) (.sip 3) .kernel = true ∧
      onNext (exec (.sip 3) (withPReg 3 { read := .own, write := .state .kernel })) (fun t => !t.kernel) = true) := by decide

theorem witness_NoStepChangesTheLaunchParameters : onNext (step running) (fun t => t.S == 13) = true := by decide

theorem witness_CarryIsWrittenOnlyAsListed :
    (onNext (exec .sub { at12 [(11, 9), (12, 3)] [] with carry := true }) (fun t => t.readR 11 == 5) = true ∧
      clearsCarry .sub = true) ∧
    (onNext (exec .or (at12 [] [])) (fun _ => true) = true ∧ clearsCarry .or = false ∧ setsCarry .or = false) ∧
    (onNext (exec (.sip 3) (withPReg 3 { read := .own, write := .state .carry })) (fun t => !t.carry) = true ∧
      clearsCarry (.sip 3) = false ∧ setsCarry (.sip 3) = false) := by decide

theorem witness_MemoryIsWrittenOnlyAsListed :
    onNext (exec .rx (at12 [] [(0, 7)])) (fun t => t.readR 11 == 7) = true ∧ writesMemory .rx = false := by decide

theorem witness_SpecialRegistersAreWrittenOnlyAsListed :
    onNext (exec (.fsdb 0 0x20) (at12 [(12, 5)] [])) (fun t => t.Field == 0x25) = true ∧
    onNext (exec .dup (at12 [] [])) (fun _ => true) = true ∧ namesDestination .dup = false ∧
    (onNext (exec (.sip 3) (withPReg 3 { read := .own, write := .state (.aux 15) })) (fun t => t.readAux 15 == 6) = true ∧
      namesDestination (.sip 3) = false) := by decide

theorem witness_TrapsArePreciseAndMasked :
    faults (exec .bc (at12 [] [])) (.trap .boundsCheck 0x100) = true ∧
    faults (exec .retn { at12 [] [] with trapsEnabled := false }) (.trap .linkUnderflow 0x100) = true ∧
    refuses (exec .bc { at12 [] [] with trapsEnabled := false }) (.trapWhileDisabled .boundsCheck) = true := by decide

theorem witness_LinkStackIsOnlyPushedAndPopped :
    onNext (exec .dis running) (fun t => t.CS == running.CS) = true ∧
    onNext (exec .retn running) (fun t => t.CS == []) = true ∧
    onNext (exec .sfc (at12 [] [])) (fun t => t.CS == [{ ret := 0x101, savedL := 20 }]) = true := by decide

theorem witness_ReturnUndoesTheCall (h : Obligations.ReturnUndoesTheCall) :
    exec .retn { at12 [] [] with CS := [{ ret := 0x103, savedL := 20 }], L := 99, S := 40, pc := 0x300 } =
      .next { at12 [] [] with CS := [], pc := 0x103, L := 20, S := 40 } :=
  h (.lfc 0 0x30) 3 0 0x30 0 0 (by simp) (at12 [] []) _
    { at12 [] [] with CS := [{ ret := 0x103, savedL := 20 }], L := 99, S := 40, pc := 0x300 } rfl rfl

theorem witness_FetchReadsWordsMostSignificantByteFirst :
    Memory.readWord (Memory.writeWord [] 0 0x01020304) (wordOf 0) = some 0x01020304 ∧
    Memory.readWord (Memory.writeWord [] 0x3FFFFFFF 0x01020304) (wordOf 0xFFFFFFFF) = some 0x01020304 := by decide

theorem witness_RegisterPushesComplete (h : Obligations.RegisterPushesComplete) :
    ∃ t, exec .dup (at12 [(12, 7)] []) = .next t ∧ Pushed (at12 [(12, 7)] []) t 7 1 :=
  h (at12 [(12, 7)] []) .dup 7 1 (by simp; decide)

theorem witness_LocalStoresComplete (h : Obligations.LocalStoresComplete) :
    ∃ t, exec .sr15 running = .next t ∧ WroteR running t 35 7 false 1 1 :=
  h running .sr15 15 (by simp)

theorem witness_StackLogicAndShiftsComplete (h : Obligations.StackLogicAndShiftsComplete) :
    ∃ t, exec .exdis running = .next t ∧ WroteR running t 11 7 false 1 1 :=
  (h running 0 0).1 .exdis 7 1 (by simp; decide)

/-- The exact sum and difference at both ends of the range. -/
theorem witness_StackAddAndSubtractComplete :
    (let s := at12 [(11, 0x7FFFFFFE), (12, 1)] []
     let z : Int := (s.readR s.S).toInt + (s.readR (s.S - 1)).toInt + (if s.carry then 1 else 0);
     -(2 ^ 31) ≤ z ∧ z ≤ 2 ^ 31 - 1 ∧ z = 2 ^ 31 - 1) ∧
    (let s := { at12 [(11, 0x80000001), (12, 0)] [] with carry := true }
     let z : Int := (s.readR (s.S - 1)).toInt - (s.readR s.S).toInt - (if s.carry then 1 else 0);
     -(2 ^ 31) ≤ z ∧ z ≤ 2 ^ 31 - 1 ∧ z = -(2 ^ 31)) := by decide

theorem witness_LiteralAddAndSubtractComplete :
    (let s := at12 [(12, 0x7FFFFF00)] []
     let z : Int := (s.readR s.S).toInt + (0xFF#8).toNat + (if s.carry then 1 else 0);
     -(2 ^ 31) ≤ z ∧ z ≤ 2 ^ 31 - 1 ∧ z = 2 ^ 31 - 1) ∧
    (let s := at12 [(12, 0)] []
     let z : Int := (s.readR s.S).toInt + (quad 0x80 0 0 0).toInt + (if s.carry then 1 else 0);
     -(2 ^ 31) ≤ z ∧ z ≤ 2 ^ 31 - 1 ∧ z = -(2 ^ 31)) := by decide

/-- One above the range and one below it, with legal operands. -/
theorem witness_OverflowTraps :
    (let s := at12 [(11, 0x7FFFFFFF), (12, 1)] []
     let z : Int := (s.readR s.S).toInt + (s.readR (s.S - 1)).toInt + (if s.carry then 1 else 0)
     separateKinds .topPop .belowPop .push = true ∧ (z < -(2 ^ 31) ∨ 2 ^ 31 - 1 < z) ∧ z = 2 ^ 31 ∧
       s.trapsEnabled = true) ∧
    (let s := { at12 [(11, 0x80000000), (12, 1)] [] with trapsEnabled := false }
     let z : Int := (s.readR (s.S - 1)).toInt - (s.readR s.S).toInt - (if s.carry then 1 else 0)
     (z < -(2 ^ 31) ∨ 2 ^ 31 - 1 < z) ∧ z = -(2 ^ 31) - 1 ∧ s.trapsEnabled = false) := by decide

/-- A launch whose predicate Lisp NaN holds of one triple. -/
def lispy : State := { running with params := { running.params with lispNaN := [(5, 7, 12)] } }

theorem witness_StackLispArithmetic :
    (lispy.readR (lispy.S - 1), lispy.readR lispy.S, lispy.readR (lispy.S - 1) - lispy.readR lispy.S) ∉ lispy.params.lispNaN ∧
    (lispy.readR (lispy.S - 1), lispy.readR lispy.S, lispy.readR (lispy.S - 1) + lispy.readR lispy.S) ∈ lispy.params.lispNaN ∧
    lispy.trapsEnabled = true ∧ { lispy with trapsEnabled := false }.trapsEnabled = false := by decide

/-- The bound one above the value, and equal to it. -/
theorem witness_BoundsCheckPassesOrTraps :
    (let s := at12 [(11, 6), (12, 7)] []
     (s.readR (s.S - 1)).toNat < (s.readR s.S).toNat) ∧
    (let s := at12 [(11, 7), (12, 7)] []
     (s.readR s.S).toNat ≤ (s.readR (s.S - 1)).toNat ∧ s.trapsEnabled = true) ∧
    (let s := { at12 [(11, 7), (12, 7)] [] with trapsEnabled := false }
     (s.readR s.S).toNat ≤ (s.readR (s.S - 1)).toNat ∧ s.trapsEnabled = false) := by decide

theorem witness_IndexMovesComplete (h : Obligations.IndexMovesComplete) :
    ∃ t, exec (.as 0xF3) running = .next t ∧ Moved running t 127 20 0x102 :=
  h.2 running 0xF3 (.as 0xF3) 127 20 2 (by simp; decide)

theorem witness_JumpsComplete (h : Obligations.JumpsComplete) :
    ∃ t, exec (.jb 0x80) running = .next t ∧ Moved running t 12 20 0x80 :=
  h running 0x80 0 0 0 (.jb 0x80) 12 0x80 (by simp; decide)

theorem witness_LiteralCompareJumpsComplete (h : Obligations.LiteralCompareJumpsComplete) :
    (∃ t, exec (.jebb 7 0xFE) running = .next t ∧ Moved running t 11 20 0xFE) ∧
    (∃ t, exec (.jnebb 7 0xFE) running = .next t ∧ Moved running t 11 20 0x103) :=
  ⟨h running 7 0xFE (.jebb 7 0xFE) true (by simp; decide), h running 7 0xFE (.jnebb 7 0xFE) false (by simp; decide)⟩

theorem witness_RegisterCompareJumpsComplete (h : Obligations.RegisterCompareJumpsComplete) :
    (∃ t, exec (.rjgb .topPop .belowPop 0x10) running = .next t ∧ Moved running t 10 20 0x110) ∧
    (∃ t, exec (.rjlb .topPop .top 0x10) running = .next t ∧ Moved running t 11 20 0x103) :=
  ⟨h.2 running .topPop .belowPop 0x10 (.rjgb .topPop .belowPop 0x10) true (by simp; decide),
   h.2 running .topPop .top 0x10 (.rjlb .topPop .top 0x10) false (by simp; decide)⟩

theorem witness_CallsComplete :
    (at12 [] []).csFull = false ∧ (at12 [(12, 0x50)] [(0x50, 0x9000)]).Holds ((at12 [(12, 0x50)] []).readR 12) 0x9000 ∧
    { at12 [(12, 0x50)] [(0x50, 0x9000)] with params := { State.resetParams with csDepth := some 1, sfciPops := true } }.csFull = false :=
  ⟨by decide, ⟨by decide, by decide⟩, by decide⟩

theorem witness_KfcEntersKernelMode : { at12 [] [] with params := { State.resetParams with csDepth := some 1 } }.csFull = false ∧
    { at12 [] [] with kernel := true }.csFull = false := by decide

theorem witness_ReturnsTakeTheNewestLink (h : Obligations.ReturnsTakeTheNewestLink) :
    exec (.ret 0xFF) running = .next { running with CS := [], pc := 0x105, L := 12, S := 19 } ∧
    exec .retn (at12 [] []) = .fault (.trap .linkUnderflow 0x100) :=
  ⟨(h running 0xFF (.ret 0xFF) 19 (by simp; decide)).1 _ _ rfl, (h (at12 [] []) 0 .retn 12 (by simp; decide)).2 rfl⟩

/-- The lowest and the highest word of memory. -/
theorem witness_LoadsComplete :
    (at12 [(11, 0xFFFFFFFF), (12, 1)] [(0, 9)]).Holds (0xFFFFFFFF + 1) 9 ∧
    (at12 [(12, 0xFFFFFF00)] [(0xFFFFFFFF, 9)]).Holds ((at12 [(12, 0xFFFFFF00)] []).readR 12 + byteZ 0xFF) 9 ∧
    (at12 [] [(0xFFFF, 9)]).Holds ((at12 [] []).readAux 0 + alphaBetaZ 0xFF 0xFF) 9 ∧
    (at12 [(35, 0x2000)] [(0x2004, 9)]).Holds ((at12 [(35, 0x2000)] []).readR ((at12 [] []).localIdx 15) + byteZ 4) 9 ∧
    (at12 [] [(3, 9)]).Holds ((at12 [] []).readAux 15 + byteZ 3) 9 :=
  ⟨⟨by decide, by decide⟩, ⟨by decide, by decide⟩, ⟨by decide, by decide⟩, ⟨by decide, by decide⟩, ⟨by decide, by decide⟩⟩

theorem witness_StoresComplete :
    (at12 [(12, 0xFFFFFF00)] []).admits ((at12 [(12, 0xFFFFFF00)] []).readR 12 + byteZ 0xFF) = true ∧
    (at12 [(11, 0xFFFFFFFF)] []).admits ((at12 [(11, 0xFFFFFFFF)] []).readR 11 + byteZ 1) = true ∧
    (at12 [(35, 0x2000)] []).admits ((at12 [(35, 0x2000)] []).readR ((at12 [] []).localIdx 15) + byteZ 4) = true ∧
    (at12 [] []).admits ((at12 [] []).readAux 15 + byteZ 3) = true := by decide

/-- The word equal to the old value, and not equal to it. -/
theorem witness_ConditionalStoreCompletes :
    (at12 [(10, 0x50), (12, 9)] [(0x50, 9)]).Holds ((at12 [(10, 0x50)] []).readR (12 - 2) + byteZ 0) 9 ∧
    (at12 [(10, 0x50), (12, 8)] [(0x50, 9)]).Holds ((at12 [(10, 0x50)] []).readR (12 - 2) + byteZ 0) 9 :=
  ⟨⟨by decide, by decide⟩, ⟨by decide, by decide⟩⟩

/-- The first word above an admitted range, and an admitted word that holds nothing: of a load, a store and a fetch,
the fetch at its first byte and at the second. -/
theorem witness_InadmissibleAccessesStop (h : Obligations.InadmissibleAccessesStop) :
    (let s := { at12 [(12, 0x40)] [] with params := { State.resetParams with admitted := [{ first := 0, last := 0x3F }] } }
     exec (.rb 0) s = .refused (.outsideLaunch 0x40) ∧ exec (.wb 0) s = .refused (.outsideLaunch 0x40) ∧
     step s = .refused (.outsideLaunch 0x40)) ∧
    (let s := at12 [(12, 0x3F)] []
     exec (.rb 0) s = .fault (.unwrittenWord 0x3F) ∧ step s = .fault (.unwrittenFetch 0x100)) ∧
    (let s := { at12 [] [(0x40, 0x32)] with pc := 0x103 }
     step s = .fault (.unwrittenFetch 0x104)) :=
  ⟨⟨(h.1 _ 0 0 0 0 .top .top .top .inPlace (.rb 0) 0x40 (by decide) (by simp; decide)).1 (by decide),
      h.2.1 _ 0 0 0 (.wb 0) 0x40 (by simp; decide) (by decide),
      (h.2.2 _ [] 0x100 (State.fetchReaches_nil (by decide)) (by decide)).1 (by decide)⟩,
    ⟨(h.1 _ 0 0 0 0 .top .top .top .inPlace (.rb 0) 0x3F (by decide) (by simp; decide)).2 (by decide) (by decide),
      (h.2.2 _ [] 0x100 (State.fetchReaches_nil (by decide)) (by decide)).2 (by decide) (by decide) (by decide)⟩,
    (h.2.2 _ [0x32] 0x104 (State.fetchReaches_one (by decide) ⟨by decide, by decide, by decide⟩ (by decide)) (by decide)).2 (by decide) (by decide) (by decide)⟩

theorem witness_BusReadsComplete : (at12 [] []).cmdReads 0xFE = true ∧ (at12 [] []).cmdWrites 0xFE = false := by decide

theorem witness_BusWritesComplete : (at12 [] []).cmdReads 0xFF = false ∧ (at12 [] []).cmdWrites 0xFF = true := by decide

theorem witness_UnclassifiedBusCommandsAreRefused :
    (let s := { at12 [] [] with params := { State.resetParams with isRead := [], isWrite := [] } }
     s.cmdReads 4 = s.cmdWrites 4) ∧
    (let s := { at12 [] [] with params := { State.resetParams with isRead := [4], isWrite := [4] } }
     s.cmdReads 4 = s.cmdWrites 4) := by decide

/-- Each kind of configured read, the state at its narrowest and its widest. -/
theorem witness_ProcessorRegisterReadCompletes (h : Obligations.ProcessorRegisterReadCompletes) :
    (∃ t, exec (.lip 255) (at12 [] []) = .next t ∧ Pushed (at12 [] []) t 0 2) ∧
    (let s := withPReg 0 { read := .fixed 9, write := .ignore }
     ∃ t, exec (.lip 0) s = .next t ∧ Pushed s t 9 2) ∧
    (let s := withPReg 3 { read := .state .kernel, write := .ignore }
     ∃ t, exec (.lip 3) s = .next t ∧ Pushed s t 1 2) ∧
    (let s := withPReg 3 { read := .state .top, write := .ignore }
     ∃ t, exec (.lip 3) s = .next t ∧ Pushed s t 12 2) ∧
    (let s := withPReg 3 .unconfigured
     ∃ t, exec (.lip 3) s = .next { t with draws := s.draws + 1 } ∧ Pushed s t (Config.pregAnswer s.draws 3) 2) :=
  ⟨(h _ 255).1 (by decide), (h _ 0).2.1 9 (by decide),
   (h _ 3).2.2.1 0 0 0 .kernel 1 (by simp; decide) (by decide), (h _ 3).2.2.1 0 0 0 .top 12 (by simp; decide) (by decide),
   (h _ 3).2.2.2 (by decide)⟩

/-- Each kind of configured write, and user mode with traps enabled and disabled. -/
theorem witness_ProcessorRegisterWriteIsPrivileged (h : Obligations.ProcessorRegisterWriteIsPrivileged) :
    (∃ t, exec (.sip 255) (withPReg 3 .storage) = .next t) ∧
    (∃ t, exec (.sip 3) (withPReg 3 { read := .own, write := .ignore }) = .next t) ∧
    (∃ t, exec (.sip 3) (withPReg 3 { read := .own, write := .state (.stackReg 255) }) = .next t) ∧
    (∃ t, exec (.sip 3) (withPReg 3 { read := .own, write := .state .pc }) = .next t ∧ t.pc = 6) ∧
    exec (.sip 3) (withPReg 3 .unconfigured) = .refused (.pregUnconfigured 3) ∧
    exec (.sip 3) (at12 [] []) = .fault (.trap .kernelOnly 0x100) ∧
    exec (.sip 3) { at12 [] [] with trapsEnabled := false } = .refused (.trapWhileDisabled .kernelOnly) :=
  ⟨⟨_, (h _ 255).1 (by decide) (by decide)⟩, ⟨_, (h _ 3).2.1 (by decide) (by decide)⟩,
   ⟨_, ((h _ 3).2.2.1 255 (by decide) (by decide)).choose_spec.1⟩,
   ⟨_, (h _ 3).2.2.2.1 0 0 .pc _ (by simp; rfl) (by decide) (by decide), by decide⟩,
   (h _ 3).2.2.2.2.1 (by decide) (by decide), (h _ 3).2.2.2.2.2.1 (by decide) (by decide),
   (h _ 3).2.2.2.2.2.2 (by decide) (by decide)⟩

theorem witness_PlainRegisterOperationsComplete (h : Obligations.PlainRegisterOperationsComplete) :
    ∃ t, exec (.rusub .below .top (.aux 15)) running = .next t ∧ RegisterResult running t (.aux 15) 0 0xFFFFFFFE true 3 :=
  (h.2.2 running .below .top (.aux 15) .inPlace (by decide)).1 (.rusub .below .top (.aux 15)) 0xFFFFFFFE true (by simp; decide)

theorem witness_RegisterAddAndSubtractComplete :
    separateKinds .topPop .belowPop .push = true ∧ separateKinds (.locals 15) (.const 11) (.locals 0) = true ∧
    (let s := at12 [(11, 0x7FFFFFFE), (12, 1)] []
     let z : Int := (s.readSrc .topPop).toInt + (s.readSrc .belowPop).toInt + (if s.carry then 1 else 0);
     -(2 ^ 31) ≤ z ∧ z ≤ 2 ^ 31 - 1 ∧ z = 2 ^ 31 - 1) ∧
    (let s := at12 [(12, 0x80000000)] []
     let z : Int := (s.readSrc (qrSrc .inPlace)).toInt - (s.readSrc (.aux 15)).toInt - (if s.carry then 1 else 0);
     -(2 ^ 31) ≤ z ∧ z ≤ 2 ^ 31 - 1 ∧ z = -(2 ^ 31)) := by decide

theorem witness_RegisterLispArithmetic :
    separateKinds .below .top (.aux 15) = true ∧
    (lispy.readSrc .below, lispy.readSrc .top, lispy.readSrc .below - lispy.readSrc .top) ∉ lispy.params.lispNaN ∧
    (lispy.readSrc .below, lispy.readSrc .top, lispy.readSrc .below + lispy.readSrc .top) ∈ lispy.params.lispNaN ∧
    lispy.trapsEnabled = true ∧ { lispy with trapsEnabled := false }.trapsEnabled = false := by decide

theorem witness_RegisterBoundsChecksAndLoads :
    separateKinds .below .topPop .push = true ∧
    (running.readSrc .below).toNat < (running.readSrc .topPop).toNat ∧
    (running.readSrc (qrSrc .pushConst0)).toNat < (running.readSrc .below).toNat ∧
    (running.readSrc .top).toNat ≤ (running.readSrc .topPop).toNat ∧
    (running.readSrc .top).toNat ≤ (running.readSrc (qrSrc .inPlace)).toNat ∧ running.trapsEnabled = true ∧
    { running with trapsEnabled := false }.trapsEnabled = false ∧
    (at12 [(12, 0x50)] [(0x50, 9)]).Holds ((at12 [(12, 0x50)] []).readSrc .top + (at12 [] []).readSrc (.aux 15)) 9 ∧
    (at12 [(12, 0x50)] [(0x50, 9)]).Holds ((at12 [] []).readSrc (qrSrc .pushConst1) + (at12 [(12, 0x50)] []).readSrc .top) 9 :=
  ⟨by decide, by decide, by decide, by decide, by decide, by decide, by decide, ⟨by decide, by decide⟩, ⟨by decide, by decide⟩⟩

theorem witness_RegisterAddOnTheStackIsAdd :
    running.params.rcBase = .postPop ∧ onNext (exec .add running) (fun t => t.readR 11 == 12) = true ∧
    faults (exec .add (at12 [(11, 0x7FFFFFFF), (12, 1)] [])) (.trap .overflow 0x100) = true := by decide

theorem witness_MixedRegisterKindsAreRefused (h : Obligations.MixedRegisterKindsAreRefused) :
    exec (.rxor (.aux 0) .top (.locals 15)) running = .refused (.illegalOperands 0xC8) :=
  h running (.aux 0) .top (.locals 15) _ 0xC8 (by decide) (by simp)

/-- A launch that continues xops. -/
def continuing : State := { at12 [] [] with params := { State.resetParams with xopContinues := true, csDepth := some 1 } }

theorem witness_XopContinuesAtItsHandler (h : Obligations.XopContinuesAtItsHandler) :
    ∃ t, exec (.xopFF 1 2) continuing = .next t ∧ Called continuing t 0 3 12 false true :=
  h continuing 1 2 0 0 (.xopFF 1 2) 0xFF 3 [1, 2] (by decide) (by decide) (by decide) (by simp [xopTable])

theorem witness_XopTrapsWithItsOperandBytes (h : Obligations.XopTrapsWithItsOperandBytes) :
    exec (.xopFF 1 2) running = .fault (.trap (.xop 0xFF [1, 2]) 0x100) ∧
    exec .xop00 { running with trapsEnabled := false } = .refused (.trapWhileDisabled (.xop 0 [])) :=
  ⟨(h running 1 2 0 0 (.xopFF 1 2) 0xFF 3 [1, 2] (by simp [xopTable])).1 rfl rfl,
   (h { running with trapsEnabled := false } 0 0 0 0 .xop00 0 1 [] (by simp [xopTable])).2 rfl⟩

theorem witness_ReservedOpcodesAreRefused (h : Obligations.ReservedOpcodesAreRefused) :
    exec (.reservedE8 3 4) running = .refused (.reserved 0xE8) :=
  h running 3 4 (.reservedE8 3 4) 0xE8 (by simp)

/-- As many links as the link stack holds, for SFCI with its pointer word, for an xop where the launch continues it. -/
theorem witness_CallsOnAFullLinkStackAreRefused (h : Obligations.CallsOnAFullLinkStackAreRefused) :
    exec .kfc running = .refused .linkStackFull ∧
    exec .sfci (running.writeR 12 0x50) = .refused .linkStackFull ∧
    exec (.xopFF 1 2) { continuing with CS := running.CS } = .refused .linkStackFull :=
  ⟨(h running 1 0 0 0 0 .kfc rfl (by decide)).1 (by simp),
   (h (running.writeR 12 0x50) 1 0 0 0 0 .kfc rfl (by decide)).2.1 9 ⟨by decide, by decide⟩,
   (h { continuing with CS := running.CS } 1 1 2 0 0 (.xopFF 1 2) rfl (by decide)).2.2 0xFF 3 [1, 2] (by decide)
     (by decide) (by simp [xopTable])⟩

end Sys2Proof.Tests
end

/-! SUPPORT. Signed and unsigned word arithmetic (R11 to R13): exact results, overflow, carries and borrows, and the
statements O22 and O23 about them. -/
namespace Sys2Proof.Machine

/-- The range test as inequalities (R11, R12). -/
theorem outsideSigned_iff (z : Int) : outsideSigned z = true ↔ z < -(2 ^ 31) ∨ 2 ^ 31 - 1 < z := by
  simp [outsideSigned]

/-- A result that fits a word is the word read as signed. -/
theorem toInt_ofInt_of_fits {z : Int} (lo : -(2 ^ 31) ≤ z) (hi : z ≤ 2 ^ 31 - 1) :
    (BitVec.ofInt 32 z).toInt = z := by
  rw [BitVec.toInt_ofInt, Int.bmod_eq_of_le] <;> omega

/-- As a word, an exact result of two signed words and a carry has its own sign if it fits, and else the other one. -/
theorem msb_ofInt {z : Int} (lo : -(2 ^ 32) ≤ z) (hi : z < 2 ^ 32) :
    (BitVec.ofInt 32 z).msb = decide (z < 0 ↔ -(2 ^ 31) ≤ z ∧ z ≤ 2 ^ 31 - 1) := by
  rw [BitVec.msb_eq_toInt, decide_eq_decide, BitVec.toInt_ofInt, Int.bmod_def]
  norm_num
  omega

theorem carryInt_bounds (c : Bool) : 0 ≤ carryInt c ∧ carryInt c ≤ 1 := by
  cases c <;> decide

/-- Two's-complement overflow of a sum (R11, D8). -/
theorem addOvf_overflow_iff (a b : Word) (c : Bool) :
    (addOvf a b c).2 = true ↔ a.msb = b.msb ∧ (addOvf a b c).1.msb ≠ a.msb := by
  have ha := a.le_toInt
  have ha' := a.toInt_lt
  have hb := b.le_toInt
  have hb' := b.toInt_lt
  obtain ⟨hc, hc'⟩ := carryInt_bounds c
  simp only [addOvf, outsideSigned_iff, msb_ofInt (z := a.toInt + b.toInt + carryInt c) (by omega) (by omega),
    BitVec.msb_eq_toInt (x := a), BitVec.msb_eq_toInt (x := b), ne_eq, decide_eq_decide]
  omega

/-- Two's-complement overflow of a difference (R12, D8). -/
theorem subOvf_overflow_iff (a b : Word) (c : Bool) :
    (subOvf a b c).2 = true ↔ a.msb ≠ b.msb ∧ (subOvf a b c).1.msb ≠ a.msb := by
  have ha := a.le_toInt
  have ha' := a.toInt_lt
  have hb := b.le_toInt
  have hb' := b.toInt_lt
  obtain ⟨hc, hc'⟩ := carryInt_bounds c
  simp only [subOvf, outsideSigned_iff, msb_ofInt (z := a.toInt - b.toInt - carryInt c) (by omega) (by omega),
    BitVec.msb_eq_toInt (x := a), BitVec.msb_eq_toInt (x := b), ne_eq, decide_eq_decide]
  omega

theorem addOvf_word (a b : Word) (c : Bool) : (addOvf a b c).1 = a + b + (if c then 1 else 0) := by
  cases c <;> simp [addOvf, carryInt, BitVec.ofInt_add]

theorem subOvf_word (a b : Word) (c : Bool) : (subOvf a b c).1 = a - b - (if c then 1 else 0) := by
  cases c <;> simp [subOvf, carryInt, Int.sub_eq_add_neg, BitVec.sub_eq_add_neg, BitVec.ofInt_add, BitVec.ofInt_neg]

/-- Settles O22: the exact result lies within twice the signed range, where its sign as a word tells whether it fits. -/
theorem overflowIsTwosComplementOverflow : Obligations.OverflowIsTwosComplementOverflow := by
  intro a b c
  exact ⟨addOvf_word a b c, addOvf_overflow_iff a b c, subOvf_word a b c, subOvf_overflow_iff a b c⟩

/-- A number given where a flag is set and 0 where it is not is the flag times the number. -/
theorem ite_eq_toNat_mul (c : Bool) (n : Nat) : (if c then n else 0) = c.toNat * n := by
  cases c <;> simp

/-- The unsigned sum and its carry out are the exact sum (R13). -/
theorem uAdd_toNat (a b : Word) (c : Bool) :
    (uAdd a b c).1.toNat + (uAdd a b c).2.toNat * 2 ^ 32 = a.toNat + b.toNat + c.toNat := by
  have ha := a.isLt
  have hb := b.isLt
  rw [← ite_eq_toNat_mul]
  cases c <;> simp [uAdd, carryInt, BitVec.toNat_ofInt] <;> split <;> omega

/-- The unsigned difference less its borrow is the exact difference (R13, D11). -/
theorem uSub_toNat (a b : Word) (c : Bool) :
    (uSub a b c).1.toNat + b.toNat + c.toNat = a.toNat + (uSub a b c).2.toNat * 2 ^ 32 := by
  have ha := a.isLt
  have hb := b.isLt
  rw [← ite_eq_toNat_mul]
  cases c <;> simp [uSub, carryInt, BitVec.toNat_ofInt] <;> split <;> omega

/-- A double word is its high word times 2^32 and its low word. -/
theorem toNat_append_word (hi lo : Word) : (hi ++ lo).toNat = hi.toNat * 2 ^ 32 + lo.toNat := by
  rw [BitVec.toNat_append, ← Nat.shiftLeft_add_eq_or_of_lt lo.isLt, Nat.shiftLeft_eq]

/-- Settles O23: the exact sums (differences) of the two words, the carry (borrow) between them cancelling out. -/
theorem unsignedChainsAreDoubleWordArithmetic : Obligations.UnsignedChainsAreDoubleWordArithmetic := by
  intro a1 a0 b1 b0 c
  simp only [toNat_append_word, ite_eq_toNat_mul]
  have addLow := uAdd_toNat a0 b0 c
  have addHigh := uAdd_toNat a1 b1 (uAdd a0 b0 c).2
  have subLow := uSub_toNat a0 b0 c
  have subHigh := uSub_toNat a1 b1 (uSub a0 b0 c).2
  constructor <;> omega

end Sys2Proof.Machine

/-! SUPPORT. What the arithmetic operations and the shapes they stand in (R101, R131, R219) answer: the result and the
frame where they go on, the trap or its refusal where they do not. Then the statements O31 to O33 and O52 to O54. -/
namespace Sys2Proof.Machine

/-! ## What an operation answers (R222) -/

/-- The operation goes on with the result `r` and leaves the carry `c`, nothing else touched. -/
def State.AluYields (s : State) (op : AluOp) (a b r : Word) (c : Bool) : Prop :=
  ∀ k, s.alu op a b k = k r (s.setCarry c)

/-- The operation raises the trap `kind`. -/
def State.AluRaises (s : State) (op : AluOp) (a b : Word) (kind : TrapKind) : Prop :=
  ∀ k, s.alu op a b k = s.raise kind

/-- The exact signed result of the adds and subtracts that trap on overflow (R11, R12). -/
def exactResult (op : AluOp) (a b : Word) (c : Bool) : Option Int :=
  match op with
  | .add => some (a.toInt + b.toInt + if c then 1 else 0)
  | .sub => some (a.toInt - b.toInt - if c then 1 else 0)
  | _ => none

/-- The wrapped result of the Lisp operations (R14, D12). -/
def lispResult (op : AluOp) (a b : Word) : Option Word :=
  match op with
  | .ladd => some (a + b)
  | .lsub => some (a - b)
  | _ => none

theorem State.alu_of_exactResult {s : State} {op : AluOp} {a b : Word} {z : Int}
    (hz : exactResult op a b s.carry = some z) (k : Word → State → Result) :
    s.alu op a b k = if outsideSigned z then s.raise .overflow else k (BitVec.ofInt 32 z) (s.setCarry false) := by
  cases op <;> cases hz <;> rfl

theorem State.alu_of_lispResult {s : State} {op : AluOp} {a b r : Word} (hr : lispResult op a b = some r)
    (k : Word → State → Result) :
    s.alu op a b k = if s.isLispNaN a b r then s.raise .lispNaN else k r (s.setCarry false) := by
  cases op <;> cases hr <;> rfl

theorem State.aluYields_of_fits {s : State} {op : AluOp} {a b : Word} {z : Int}
    (hz : exactResult op a b s.carry = some z) (lo : -(2 ^ 31) ≤ z) (hi : z ≤ 2 ^ 31 - 1) :
    s.AluYields op a b (BitVec.ofInt 32 z) false := by
  have fits : ¬ outsideSigned z = true := by rw [outsideSigned_iff]; omega
  intro k
  rw [State.alu_of_exactResult hz, if_neg fits]

theorem State.aluRaises_overflow {s : State} {op : AluOp} {a b : Word} {z : Int}
    (hz : exactResult op a b s.carry = some z) (out : z < -(2 ^ 31) ∨ 2 ^ 31 - 1 < z) :
    s.AluRaises op a b .overflow := by
  intro k
  rw [State.alu_of_exactResult hz, if_pos ((outsideSigned_iff z).mpr out)]

theorem State.isLispNaN_iff (s : State) (a b r : Word) :
    s.isLispNaN a b r = true ↔ (a, b, r) ∈ s.params.lispNaN := by
  simp [State.isLispNaN]

theorem State.aluYields_lisp {s : State} {op : AluOp} {a b r : Word} (hr : lispResult op a b = some r)
    (h : (a, b, r) ∉ s.params.lispNaN) : s.AluYields op a b r false := by
  intro k
  rw [State.alu_of_lispResult hr, if_neg (mt (s.isLispNaN_iff a b r).mp h)]

theorem State.aluRaises_lispNaN {s : State} {op : AluOp} {a b r : Word} (hr : lispResult op a b = some r)
    (h : (a, b, r) ∈ s.params.lispNaN) : s.AluRaises op a b .lispNaN := by
  intro k
  rw [State.alu_of_lispResult hr, if_pos ((s.isLispNaN_iff a b r).mpr h)]

theorem State.aluYields_bc {s : State} {a b : Word} (h : a.toNat < b.toNat) : s.AluYields .bc a b a s.carry := by
  intro k
  exact if_neg (by simpa [boundsFail] using h)

theorem State.aluRaises_boundsCheck {s : State} {a b : Word} (h : b.toNat ≤ a.toNat) :
    s.AluRaises .bc a b .boundsCheck := by
  intro k
  exact if_pos (by simpa [boundsFail] using h)

theorem State.aluYields_rx {s : State} {a b m : Word} (h : s.Holds (a + b) m) : s.AluYields .rx a b m s.carry :=
  fun k => State.memRead_of_holds (fun v => k v s) h

/-! ## A trap raised, masked or not (R283, R284, R291) -/

/-- The instruction takes the trap `kind` at its own address, or with traps disabled is refused for it. -/
def State.TrapsOrRefuses (s : State) (o : Result) (kind : TrapKind) : Prop :=
  (s.trapsEnabled = true → o = .fault (.trap kind s.pc)) ∧
  (s.trapsEnabled = false → o = .refused (.trapWhileDisabled kind))

theorem State.raise_trapsOrRefuses (s : State) (kind : TrapKind) : s.TrapsOrRefuses (s.raise kind) kind :=
  ⟨s.raise_enabled kind, s.raise_disabled kind⟩

theorem State.AluRaises.trapsOrRefuses {s : State} {op : AluOp} {a b : Word} {kind : TrapKind}
    (h : s.AluRaises op a b kind) (k : Word → State → Result) : s.TrapsOrRefuses (s.alu op a b k) kind := by
  rw [h k]
  exact s.raise_trapsOrRefuses kind

/-- A form RR instruction that keeps Locals and AuxRegs apart is its operation (R216, R219). -/
theorem State.formRR_of_separate {s : State} {opcode : Byte} {op : AluOp} {ra rb : Src} {rc : Dst}
    (h : separateKinds ra rb rc = true) : s.formRR opcode op ra rb rc = s.regAlu op ra rb rc 3 :=
  if_pos h

/-! ## What the shapes leave (R101, R219) -/

theorem State.stackAlu_of_yields {s : State} {op : AluOp} {a b r : Word} {c : Bool} (h : s.AluYields op a b r c) :
    ∃ t, s.stackAlu op a b = .next t ∧ WroteR s t (s.S - 1) r c 1 1 :=
  ⟨_, h _, rfl, ((s.setCarry c).readR_replaceTwo · r), rfl, rfl, rfl, ⟨fun _ => rfl, fun _ => rfl, rfl⟩,
    ⟨rfl, rfl, rfl, rfl, rfl, rfl, rfl⟩, fun _ => rfl, rfl⟩

theorem State.dstBase_eq (s : State) (pops : StackIdx) :
    s.dstBase pops = if s.params.rcBase = .prePop then s.S else s.S - pops := by
  unfold State.dstBase
  cases s.params.rcBase <;> rfl

/-- Writing a destination follows the table of R218. -/
theorem dstWritten_writeDst (s : State) (rc : Dst) (pops : StackIdx) (r : Word) :
    DstWritten s (s.writeDst rc pops r) rc pops r := by
  unfold DstWritten
  simp only [← State.dstBase_eq]
  cases rc with
  | locals n => exact ⟨rfl, (s.readR_writeR · (s.localIdx n) r), fun _ => rfl, fun _ => rfl⟩
  | aux n => exact ⟨rfl, fun _ => rfl, (s.readAux_writeAux · n r), fun _ => rfl⟩
  | const n => exact ⟨rfl, fun _ => rfl, fun _ => rfl, (s.readConst_writeConst · n r)⟩
  | top => exact ⟨rfl, (s.readR_writeR · (s.dstBase pops) r), fun _ => rfl, fun _ => rfl⟩
  | below => exact ⟨rfl, (s.readR_writeR · (s.dstBase pops - 1) r), fun _ => rfl, fun _ => rfl⟩
  | push => exact ⟨rfl, (s.readR_writeR · (s.dstBase pops + 1) r), fun _ => rfl, fun _ => rfl⟩

/-- An operation on registers that goes on leaves its result in the destination, `S`, the carry and `pc` (R219). -/
theorem State.regAlu_of_yields {s : State} {op : AluOp} {ra rb : Src} {rc : Dst} {len : Nat} {r : Word} {c : Bool}
    (h : s.AluYields op (s.readSrc ra) (s.readSrc rb) r c) :
    ∃ t, s.regAlu op ra rb rc len = .next t ∧ RegisterResult s t rc (srcPops ra + srcPops rb) r c len := by
  refine ⟨_, h _, ?_, ?_⟩
  · exact dstWritten_writeDst (s.setCarry c) rc _ r
  · simp [KeepsSystem, KeepsMemory]

/-- A form QR instruction pops what its second source says: no pair number names a popping Ra (R221). -/
theorem srcPops_qrSrc (sel : QrSel) : srcPops (qrSrc sel) = 0 := by
  cases sel <;> rfl

theorem State.formRR_of_yields {s : State} {opcode : Byte} {op : AluOp} {ra rb : Src} {rc : Dst} {r : Word} {c : Bool}
    (hk : separateKinds ra rb rc = true) (h : s.AluYields op (s.readSrc ra) (s.readSrc rb) r c) :
    ∃ t, s.formRR opcode op ra rb rc = .next t ∧ RegisterResult s t rc (srcPops ra + srcPops rb) r c 3 := by
  rw [State.formRR_of_separate hk]
  exact State.regAlu_of_yields h

theorem State.formQR_of_yields {s : State} {op : AluOp} {sel : QrSel} {rb : Src} {r : Word} {c : Bool}
    (h : s.AluYields op (s.readSrc (qrSrc sel)) (s.readSrc rb) r c) :
    ∃ t, s.formQR op sel rb = .next t ∧ RegisterResult s t (qrDst sel) (srcPops rb) r c 2 := by
  have pops : srcPops (qrSrc sel) + srcPops rb = srcPops rb := by simp [srcPops_qrSrc]
  rw [← pops]
  exact State.regAlu_of_yields h

theorem State.stackAlu_trapsOrRefuses {s : State} {op : AluOp} {a b : Word} {kind : TrapKind}
    (h : s.AluRaises op a b kind) : s.TrapsOrRefuses (s.stackAlu op a b) kind :=
  h.trapsOrRefuses _

theorem State.literalAlu_trapsOrRefuses {s : State} {op : AluOp} {v : Word} {len : Nat} {kind : TrapKind}
    (h : s.AluRaises op (s.readR s.S) v kind) : s.TrapsOrRefuses (s.literalAlu op v len) kind :=
  h.trapsOrRefuses _

theorem State.regAlu_trapsOrRefuses {s : State} {op : AluOp} {ra rb : Src} {rc : Dst} {len : Nat} {kind : TrapKind}
    (h : s.AluRaises op (s.readSrc ra) (s.readSrc rb) kind) : s.TrapsOrRefuses (s.regAlu op ra rb rc len) kind :=
  h.trapsOrRefuses _

theorem State.formRR_trapsOrRefuses {s : State} {opcode : Byte} {op : AluOp} {ra rb : Src} {rc : Dst} {kind : TrapKind}
    (hk : separateKinds ra rb rc = true) (h : s.AluRaises op (s.readSrc ra) (s.readSrc rb) kind) :
    s.TrapsOrRefuses (s.formRR opcode op ra rb rc) kind := by
  rw [State.formRR_of_separate hk]
  exact State.regAlu_trapsOrRefuses h

theorem State.formQR_trapsOrRefuses {s : State} {op : AluOp} {sel : QrSel} {rb : Src} {kind : TrapKind}
    (h : s.AluRaises op (s.readSrc (qrSrc sel)) (s.readSrc rb) kind) : s.TrapsOrRefuses (s.formQR op sel rb) kind :=
  State.regAlu_trapsOrRefuses h

theorem byteZ_toInt (a : Byte) : (byteZ a).toInt = a.toNat := by
  have := a.isLt
  rw [byteZ, BitVec.toInt_eq_toNat_of_lt] <;> simp [BitVec.toNat_setWidth] <;> omega

theorem alphaBetaZ_toInt (a b : Byte) : (alphaBetaZ a b).toInt = (a.toNat * 256 + b.toNat : Nat) := by
  have := a.isLt
  have := b.isLt
  have h : (alphaBetaZ a b).toNat = a.toNat * 256 + b.toNat := by
    rw [alphaBetaZ, alphaBeta, BitVec.toNat_setWidth, BitVec.toNat_append, ← Nat.shiftLeft_add_eq_or_of_lt b.isLt,
      Nat.shiftLeft_eq]
    omega
  rw [BitVec.toInt_eq_toNat_of_lt, h]
  rw [h]; omega

/-- Settles O31: each of the twelve is `AluOp.add` or `AluOp.sub` in one of the four shapes. -/
theorem overflowTraps : Obligations.OverflowTraps := by
  intro s a b g d ra rb rc sel i z hk hi out
  have raises (op) {x y} (hz : some z = exactResult op x y s.carry) : s.AluRaises op x y .overflow :=
    State.aluRaises_overflow hz.symm out
  show s.TrapsOrRefuses (exec i s) .overflow
  simp only [List.mem_cons, Prod.mk.injEq, List.not_mem_nil, or_false] at hi
  rcases hi with ⟨rfl, hz⟩ | ⟨rfl, hz⟩ | ⟨rfl, hz⟩ | ⟨rfl, hz⟩ | ⟨rfl, hz⟩ | ⟨rfl, hz⟩ |
    ⟨rfl, hz⟩ | ⟨rfl, hz⟩ | ⟨rfl, hz⟩ | ⟨rfl, hz⟩ | ⟨rfl, hz⟩ | ⟨rfl, hz⟩
  · exact State.stackAlu_trapsOrRefuses (raises .add (congrArg some hz))
  · exact State.literalAlu_trapsOrRefuses (raises .add (congrArg some (byteZ_toInt a ▸ hz)))
  · exact State.literalAlu_trapsOrRefuses (raises .add (congrArg some (alphaBetaZ_toInt a b ▸ hz)))
  · exact State.literalAlu_trapsOrRefuses (raises .add (congrArg some hz))
  · exact State.formRR_trapsOrRefuses hk (raises .add (congrArg some hz))
  · exact State.formQR_trapsOrRefuses (raises .add (congrArg some hz))
  · exact State.stackAlu_trapsOrRefuses (raises .sub (congrArg some hz))
  · exact State.literalAlu_trapsOrRefuses (raises .sub (congrArg some (byteZ_toInt a ▸ hz)))
  · exact State.literalAlu_trapsOrRefuses (raises .sub (congrArg some (alphaBetaZ_toInt a b ▸ hz)))
  · exact State.literalAlu_trapsOrRefuses (raises .sub (congrArg some hz))
  · exact State.formRR_trapsOrRefuses hk (raises .sub (congrArg some hz))
  · exact State.formQR_trapsOrRefuses (raises .sub (congrArg some hz))

/-- Settles O32: both are Lisp operations in the stack shape. -/
theorem stackLispArithmetic : Obligations.StackLispArithmetic := by
  intro s i r hi
  simp only [List.mem_cons, Prod.mk.injEq, List.not_mem_nil, or_false] at hi
  rcases hi with ⟨rfl, rfl⟩ | ⟨rfl, rfl⟩
  · exact ⟨fun h => State.stackAlu_of_yields (State.aluYields_lisp (op := .ladd) rfl h),
      fun h => State.stackAlu_trapsOrRefuses (State.aluRaises_lispNaN (op := .ladd) rfl h)⟩
  · exact ⟨fun h => State.stackAlu_of_yields (State.aluYields_lisp (op := .lsub) rfl h),
      fun h => State.stackAlu_trapsOrRefuses (State.aluRaises_lispNaN (op := .lsub) rfl h)⟩

theorem exec_bc (s : State) : exec .bc s =
    s.alu .bc (s.readR (s.S - 1)) (s.readR s.S) fun _ t => .next ((t.pop 1).advance 1) := rfl

/-- Settles O33: BC is the bounds check followed by a pop. -/
theorem boundsCheckPassesOrTraps : Obligations.BoundsCheckPassesOrTraps := by
  intro s
  rw [exec_bc]
  refine ⟨fun below => ⟨_, State.aluYields_bc below _, ?_⟩,
    fun bound => (State.aluRaises_boundsCheck bound).trapsOrRefuses _⟩
  simp [Moved, KeepsR, KeepsFiles, KeepsSystem, KeepsMemory]

/-- Settles O52: the word of an exact result that fits reads as that number, and the register shapes keep the frame. -/
theorem registerAddAndSubtractComplete : Obligations.RegisterAddAndSubtractComplete := by
  intro s ra rb rc sel i z dst pops len hk hi lo hi'
  have yields (op) {x y} (hz : some z = exactResult op x y s.carry) : s.AluYields op x y (BitVec.ofInt 32 z) false :=
    State.aluYields_of_fits hz.symm lo hi'
  suffices h : ∃ t, exec i s = .next t ∧ RegisterResult s t dst pops (BitVec.ofInt 32 z) false len by
    obtain ⟨t, ht, result⟩ := h
    exact ⟨t, _, ht, toInt_ofInt_of_fits lo hi', result⟩
  simp only [List.mem_cons, Prod.mk.injEq, List.not_mem_nil, or_false] at hi
  rcases hi with ⟨rfl, hz, rfl, rfl, rfl⟩ | ⟨rfl, hz, rfl, rfl, rfl⟩ |
    ⟨rfl, hz, rfl, rfl, rfl⟩ | ⟨rfl, hz, rfl, rfl, rfl⟩
  · exact State.formRR_of_yields hk (yields .add (congrArg some hz))
  · exact State.formRR_of_yields hk (yields .sub (congrArg some hz))
  · exact State.formQR_of_yields (yields .add (congrArg some hz))
  · exact State.formQR_of_yields (yields .sub (congrArg some hz))

/-- Settles O53: the four are Lisp operations in the register shapes. -/
theorem registerLispArithmetic : Obligations.RegisterLispArithmetic := by
  intro s ra rb rc sel i x y r dst pops len hk hi
  simp only [List.mem_cons, Prod.mk.injEq, List.not_mem_nil, or_false] at hi
  rcases hi with ⟨rfl, rfl, rfl, rfl, rfl, rfl, rfl⟩ | ⟨rfl, rfl, rfl, rfl, rfl, rfl, rfl⟩ |
    ⟨rfl, rfl, rfl, rfl, rfl, rfl, rfl⟩ | ⟨rfl, rfl, rfl, rfl, rfl, rfl, rfl⟩
  · exact ⟨fun h => State.formRR_of_yields hk (State.aluYields_lisp (op := .ladd) rfl h),
      fun h => State.formRR_trapsOrRefuses hk (State.aluRaises_lispNaN (op := .ladd) rfl h)⟩
  · exact ⟨fun h => State.formRR_of_yields hk (State.aluYields_lisp (op := .lsub) rfl h),
      fun h => State.formRR_trapsOrRefuses hk (State.aluRaises_lispNaN (op := .lsub) rfl h)⟩
  · exact ⟨fun h => State.formQR_of_yields (State.aluYields_lisp (op := .ladd) rfl h),
      fun h => State.formQR_trapsOrRefuses (State.aluRaises_lispNaN (op := .ladd) rfl h)⟩
  · exact ⟨fun h => State.formQR_of_yields (State.aluYields_lisp (op := .lsub) rfl h),
      fun h => State.formQR_trapsOrRefuses (State.aluRaises_lispNaN (op := .lsub) rfl h)⟩

/-- Settles O54: the bounds check and the load in the register shapes. -/
theorem registerBoundsChecksAndLoads : Obligations.RegisterBoundsChecksAndLoads := by
  intro s ra rb rc sel hk
  exact ⟨fun below => State.formRR_of_yields hk (State.aluYields_bc below),
    fun below => State.formQR_of_yields (State.aluYields_bc below),
    fun bound => State.formRR_trapsOrRefuses hk (State.aluRaises_boundsCheck bound),
    fun bound => State.formQR_trapsOrRefuses (State.aluRaises_boundsCheck bound),
    fun _ holds => State.formRR_of_yields hk (State.aluYields_rx holds),
    fun _ holds => State.formQR_of_yields (State.aluYields_rx holds)⟩

end Sys2Proof.Machine

/-! SUPPORT. Calls and returns (R17, R34), and the statements O39, O41 and O19. -/
namespace Sys2Proof.Machine

theorem State.call_of_room {s : State} (target : Word) (len : Nat) (h : s.csFull = false) :
    s.call target len = .next ((s.linked len).jump target) :=
  State.pushLink_of_room len _ h

/-- A call of a state that differs from `s` in its `S` at most leaves what `Called` says of `s` (R17). -/
theorem called_linked_jump (s : State) (newS : StackIdx) (target : Word) (len : Nat) :
    Called s ((({ s with S := newS } : State).linked len).jump target) target len newS s.kernel s.trapsEnabled :=
  ⟨rfl, rfl, rfl, rfl, rfl, rfl, fun _ => rfl, rfl, ⟨fun _ => rfl, fun _ => rfl, rfl⟩, ⟨fun _ => rfl, rfl⟩,
    rfl, rfl, rfl, rfl⟩

/-- With room on the link stack, a call from a state that differs from `s` in its `S` at most completes (R17). -/
theorem State.call_completes {s : State} (newS : StackIdx) (target : Word) (len : Nat) (room : s.csFull = false) :
    ∃ t, ({ s with S := newS } : State).call target len = .next t ∧
      Called s t target len newS s.kernel s.trapsEnabled :=
  ⟨_, State.call_of_room target len room, called_linked_jump s newS target len⟩

/-- The state SFCI calls from: popped where the launch says so (R118, D19). -/
theorem sfci_state (s : State) : (if s.params.sfciPops then s.pop 1 else s) =
    { s with S := if s.params.sfciPops then s.wrap (s.S - 1) else s.S } := by
  split <;> rfl

/-- Settles O39: each call is a call from the state with at most `S` moved. -/
theorem callsComplete : Obligations.CallsComplete := by
  intro s a b g d room
  refine ⟨State.call_completes (s.wrap (s.S - 1)) _ 1 room, State.call_completes s.S _ 5 room,
    State.call_completes s.S _ 3 room, fun v holds => ?_⟩
  have pointer : exec .sfci s = _ := State.memRead_of_holds _ holds
  rw [pointer, sfci_state]
  exact State.call_completes _ v 1 room

theorem State.ret_of_link {s : State} {link : Link} {rest : List Link} (h : s.CS = link :: rest) :
    s.ret = .next { s with CS := rest, pc := link.ret, L := link.savedL } := by
  simp [State.ret, h]

theorem State.ret_of_empty {s : State} (h : s.CS = []) : s.ret = .fault (.trap .linkUnderflow s.pc) := by
  simp [State.ret, h]

/-- Alpha as an addend of `S` or `L` counts as signed: the byte itself is its sign-extension's low byte (R130, D2). -/
theorem alphaIdx_eq (a : Byte) : alphaIdx a = BitVec.ofInt 8 a.toInt := BitVec.ofInt_toInt.symm

/-- Settles O41: both are `Return()`, RET from the state with `S` moved. -/
theorem returnsTakeTheNewestLink : Obligations.ReturnsTakeTheNewestLink := by
  intro s a i newS hi
  simp only [List.mem_cons, Prod.mk.injEq, List.not_mem_nil, or_false, ← alphaIdx_eq] at hi
  rcases hi with ⟨rfl, rfl⟩ | ⟨rfl, rfl⟩
  · exact ⟨fun _ _ h => State.ret_of_link h, State.ret_of_empty⟩
  · exact ⟨fun _ _ h => State.ret_of_link (s := s.setS (s.L + alphaIdx a)) h,
      State.ret_of_empty (s := s.setS (s.L + alphaIdx a))⟩

/-- A call pushes the link to the byte after itself with the `L` of the moment (R17). -/
theorem State.call_CS {s t : State} {target : Word} {len : Nat} (h : s.call target len = .next t) :
    t.CS = { ret := s.pc + BitVec.ofNat 32 len, savedL := s.L } :: s.CS := by
  obtain ⟨_, rfl⟩ := State.call_next h
  rfl

/-- The four call instructions push the link to the byte after themselves (R17, R117, R118, R169, R187). -/
theorem exec_call_CS {i : Instr} {len : Nat} {a b g d : Byte}
    (hi : (i, len) ∈ ([(.sfc, 1), (.sfci, 1), (.lfc a b, 3), (.dfc a b g d, 5)] : List (Instr × Nat)))
    {s t : State} (h : exec i s = .next t) :
    t.CS = { ret := s.pc + BitVec.ofNat 32 len, savedL := s.L } :: s.CS := by
  simp only [List.mem_cons, Prod.mk.injEq, List.not_mem_nil, or_false] at hi
  rcases hi with ⟨rfl, rfl⟩ | ⟨rfl, rfl⟩ | ⟨rfl, rfl⟩ | ⟨rfl, rfl⟩
  · exact State.call_CS (s := s.pop 1) h
  · obtain ⟨v, _, hv⟩ := State.memRead_next h
    rw [sfci_state] at hv
    exact (State.call_CS hv).trans rfl
  · exact State.call_CS h
  · exact State.call_CS h

/-- Settles O19: the newest link of the callee's link stack is the one the call pushed. -/
theorem returnUndoesTheCall : Obligations.ReturnUndoesTheCall := by
  intro i len a b g d hi s t u call hu
  exact State.ret_of_link (hu.trans (exec_call_CS hi call))

end Sys2Proof.Machine

/-! SUPPORT. The inversion of `exec`: what any instruction that goes on has done to the state. Then the statements O13
and O18, which follow from it. -/
namespace Sys2Proof.Machine

/-- `t` comes from `s` by writes to registers, flags, memory, the bus history and the counters: everything an
instruction does but for the link stack and the entry to kernel mode. -/
inductive State.Edits (s : State) : State → Prop
  | refl : s.Edits s
  | writeR {u} (i v) : s.Edits u → s.Edits (u.writeR i v)
  | setS {u} (i) : s.Edits u → s.Edits (u.setS i)
  | setL {u} (i) : s.Edits u → s.Edits (u.setL i)
  | writeAux {u} (n v) : s.Edits u → s.Edits (u.writeAux n v)
  | writeConst {u} (n v) : s.Edits u → s.Edits (u.writeConst n v)
  | setCarry {u} (c) : s.Edits u → s.Edits (u.setCarry c)
  | setField {u} (v) : s.Edits u → s.Edits (u.setField v)
  | setPReg {u} (i v) : s.Edits u → s.Edits (u.setPReg i v)
  | setKernel {u} (on) : s.Edits u → s.Edits (u.setKernel on)
  | setTrapsEnabled {u} (on) : s.Edits u → s.Edits (u.setTrapsEnabled on)
  | advance {u} (len) : s.Edits u → s.Edits (u.advance len)
  | jump {u} (target) : s.Edits u → s.Edits (u.jump target)
  | storeWord {u} (a v) : s.Edits u → s.Edits (u.storeWord a v)
  | afterBusRead {u} (addr cmd) : s.Edits u → s.Edits (u.afterBusRead addr cmd)
  | afterBusWrite {u} (addr cmd data) : s.Edits u → s.Edits (u.afterBusWrite addr cmd data)
  | afterPregRead {u} (i) : s.Edits u → s.Edits (u.afterPregRead i)

namespace State.Edits
variable {s u : State}

theorem push (v : Word) (h : s.Edits u) : s.Edits (u.push v) := (h.writeR _ v).setS _

theorem pop (n : StackIdx) (h : s.Edits u) : s.Edits (u.pop n) := h.setS _

theorem replaceTwo (v : Word) (h : s.Edits u) : s.Edits (u.replaceTwo v) := (h.writeR _ v).setS _

theorem branch (taken : Bool) (beta : Byte) (h : s.Edits u) : s.Edits (u.branch taken beta) := by
  cases taken with
  | false => exact h.advance 3
  | true => exact h.jump _

theorem writeDst (rc : Dst) (pops : StackIdx) (r : Word) (h : s.Edits u) : s.Edits (u.writeDst rc pops r) := by
  cases rc with
  | locals n => exact (h.writeR _ r).setS _
  | aux n => exact (h.writeAux n r).setS _
  | const n => exact (h.writeConst n r).setS _
  | top => exact (h.writeR _ r).setS _
  | below => exact (h.writeR _ r).setS _
  | push => exact (h.writeR _ r).setS _

theorem writeTarget (x : PRegTarget) (v : Word) (h : s.Edits u) : s.Edits (u.writeTarget x v) := by
  cases x with
  | stackReg i => exact h.writeR i v
  | aux n => exact h.writeAux n v
  | const n => exact h.writeConst n v
  | top => exact h.setS _
  | frame => exact h.setL _
  | pc => exact h.jump v
  | carry => exact h.setCarry _
  | field => exact h.setField v
  | kernel => exact h.setKernel _
  | trapsEnabled => exact h.setTrapsEnabled _

/-- No edit touches the link stack or the launch parameters. -/
theorem keeps (h : s.Edits u) : u.CS = s.CS ∧ u.params = s.params := by
  induction h with
  | refl => exact ⟨rfl, rfl⟩
  | afterPregRead i _ ih => simpa using ih
  | writeR _ _ _ ih | setS _ _ ih | setL _ _ ih | writeAux _ _ _ ih | writeConst _ _ _ ih | setCarry _ _ ih
  | setField _ _ ih | setPReg _ _ _ ih | setKernel _ _ ih | setTrapsEnabled _ _ ih | advance _ _ ih | jump _ _ ih
  | storeWord _ _ _ ih | afterBusRead _ _ _ ih | afterBusWrite _ _ _ _ ih => exact ih

end State.Edits

/-- What an instruction that goes on can do: edit the state; push a link with the `L` of the moment and go somewhere
(the calls and a continued xop); enter kernel mode (KFC); or, RET and RETN alone, take the newest link. -/
inductive Effect (i : Instr) (s : State) : State → Prop
  | edited {t} : s.Edits t → Effect i s t
  | called {u} (target len) : s.Edits u → u.L = s.L → u.csFull = false → Effect i s ((u.linked len).jump target)
  | entered : s.csFull = false → Effect i s
      { s.linked 1 with pc := s.params.instTrap[0x54], kernel := true, trapsEnabled := false }
  | returned {u} (link rest) : (i = .retn ∨ ∃ a, i = .ret a) → s.Edits u → u.CS = link :: rest →
      Effect i s { u with CS := rest, pc := link.ret, L := link.savedL }

namespace Effect
variable {i : Instr} {s t : State}

theorem ofNext {u : State} (hu : s.Edits u) (h : Host.Outcome.next u = (.next t : Result)) : Effect i s t :=
  Host.Outcome.next.inj h ▸ .edited hu

theorem ofMemRead {a : Word} {k : Word → Result} (h : s.memRead a k = .next t)
    (hk : ∀ m, k m = .next t → Effect i s t) : Effect i s t := by
  obtain ⟨m, _, hm⟩ := State.memRead_next h
  exact hk m hm

theorem ofMemWrite {a v : Word} {k : State → Result} (h : s.memWrite a v k = .next t)
    (hk : k (s.storeWord a v) = .next t → Effect i s t) : Effect i s t :=
  hk (State.memWrite_next h).2

theorem ofBusCommand {op cmd : Byte} {onRead onWrite : Result} (h : s.busCommand op cmd onRead onWrite = .next t)
    (hr : onRead = .next t → Effect i s t) (hw : onWrite = .next t → Effect i s t) : Effect i s t := by
  rcases State.busCommand_next h with ⟨_, _, h⟩ | ⟨_, _, h⟩
  · exact hr h
  · exact hw h

theorem ofStackAlu {op : AluOp} {a b : Word} (h : s.stackAlu op a b = .next t) : Effect i s t := by
  obtain ⟨r, c, rfl⟩ := State.stackAlu_next h
  exact .edited (.advance 1 (.replaceTwo r (.setCarry c .refl)))

theorem ofLiteralAlu {op : AluOp} {v : Word} {len : Nat} (h : s.literalAlu op v len = .next t) : Effect i s t := by
  obtain ⟨r, c, rfl⟩ := State.literalAlu_next h
  exact .edited (.advance len (.writeR _ r (.setCarry c .refl)))

theorem ofRegAlu {op : AluOp} {ra rb : Src} {rc : Dst} {len : Nat} (h : s.regAlu op ra rb rc len = .next t) :
    Effect i s t := by
  obtain ⟨r, c, rfl⟩ := State.regAlu_next h
  exact .edited (.advance len (.writeDst rc _ r (.setCarry c .refl)))

theorem ofFormRR {opcode : Byte} {op : AluOp} {ra rb : Src} {rc : Dst} (h : s.formRR opcode op ra rb rc = .next t) :
    Effect i s t :=
  ofRegAlu (State.formRR_next h).2

theorem ofFormQR {op : AluOp} {sel : QrSel} {rb : Src} (h : s.formQR op sel rb = .next t) : Effect i s t :=
  ofRegAlu h

theorem ofFormJBB {c : Cond} {alpha beta : Byte} (h : s.formJBB c alpha beta = .next t) : Effect i s t :=
  ofNext (.branch _ _ (.pop _ .refl)) h

theorem ofFormRJB {c : Cond} {rs : RjbSrc} {rb : Src} {beta : Byte} (h : s.formRJB c rs rb beta = .next t) :
    Effect i s t :=
  ofNext (.branch _ _ (.pop _ .refl)) h

theorem ofLoadThroughLocal {n : Nibble} {alpha : Byte} (h : s.loadThroughLocal n alpha = .next t) : Effect i s t :=
  ofMemRead h fun _ => ofNext (.advance _ (.push _ .refl))

theorem ofStoreThroughLocal {n : Nibble} {alpha : Byte} (h : s.storeThroughLocal n alpha = .next t) : Effect i s t :=
  ofMemWrite h (ofNext (.advance _ (.pop _ (.storeWord _ _ .refl))))

theorem ofCall {u : State} {target : Word} {len : Nat} (hu : s.Edits u) (hL : u.L = s.L)
    (h : u.call target len = .next t) : Effect i s t := by
  obtain ⟨room, rfl⟩ := State.call_next h
  exact .called target len hu hL room

theorem ofRet {u : State} (hi : i = .retn ∨ ∃ a, i = .ret a) (hu : s.Edits u) (h : u.ret = .next t) :
    Effect i s t := by
  obtain ⟨link, rest, hCS, rfl⟩ := State.ret_next h
  exact .returned link rest hi hu hCS

theorem ofTakeXop {op : Byte} {len : Nat} {operands : List Byte} (h : s.takeXop op len operands = .next t) :
    Effect i s t := by
  obtain ⟨_, _, room, rfl⟩ := State.takeXop_next h
  exact .called _ len .refl rfl room

theorem ofSip {alpha : Byte} (h : execSip alpha s = .next t) : Effect i s t := by
  unfold execSip at h
  split at h
  · rcases State.pregWrite_next h with ⟨_, h⟩ | ⟨_, h⟩ | ⟨x, _, h⟩
    · exact ofNext (.pop _ (.setPReg _ _ (.advance _ .refl))) h
    · exact ofNext (.pop _ (.advance _ .refl)) h
    · exact ofNext (.pop _ (.writeTarget x _ (.advance _ .refl))) h
  · exact absurd h (s.raise_ne_next t _)

theorem ofCst {alpha : Byte} (h : execCst alpha s = .next t) : Effect i s t := by
  obtain ⟨m, _, h⟩ := State.memRead_next h
  split at h
  · exact ofMemWrite h (ofNext (.advance _ (.push _ (.storeWord _ _ .refl))))
  · exact ofNext (.advance _ (.push _ .refl)) h

theorem ofBc (h : execBc s = .next t) : Effect i s t := by
  obtain ⟨_, c, hk, _⟩ := State.alu_next h
  exact ofNext (.advance _ (.pop _ (.setCarry c .refl))) hk

theorem ofKfc (h : execKfc s = .next t) : Effect i s t := by
  obtain ⟨room, rfl⟩ := State.enterKernel_next h
  exact .entered room

end Effect

/-- The inversion of `exec`: every instruction that goes on has one of the four effects. -/
theorem exec_effect {i : Instr} {s t : State} (h : exec i s = .next t) : Effect i s t := by
  unfold exec at h
  cases i
  case xop20 | xop21 | xop22 | xop23 | xop24 | xop25 | xop26 | xop27 | xop28 | xop29 | xop2A | xop2B | xop2C |
      xop2D | xop2E | xop2F | xop30 | xop33 | xop38 | xop39 | xop3A | xop3B | xop3C | xop3D | xop3E | xop3F |
      xop8D | xop8F | xop93 | xop9C | xop9D | xop9E | xopF4 | xopF5 | xopF6 | xopF7 | xopFC | xopFD | xopFE |
      xopFF | xop00 | xop01 | xop02 | xop03 | xop04 | xop05 | xop06 | xop07 | xop08 | xop09 | xop0A | xop0B |
      xop0C | xop0D | xop0E | xop0F | xop1C | xop1D | xop1E | xop1F | xop4A | xop50 | xop51 | xop52 | xop53 |
      xop55 | xop58 | xop59 | xop5A | xop5B | xop5C | xop5D | xop5E | xop5F => exact Effect.ofTakeXop h
  case dfc | lfc => exact Effect.ofCall .refl rfl h
  case liqb | lib | lidb | lc0 | lc1 | lc2 | lc3 | lc4 | lc5 | lc6 | lc7 | lc8 | lc9 | lc10 | lc11 | dup | lr0 |
      lr1 | lr2 | lr3 | lr4 | lr5 | lr6 | lr7 | lr8 | lr9 | lr10 | lr11 | lr12 | lr13 | lr14 | lr15 =>
    exact Effect.ofNext (.advance _ (.push _ .refl)) h
  case addqb | subqb | addb | subb | adddb | subdb => exact Effect.ofLiteralAlu h
  case j5 | j2 | j3 | j1 => exact Effect.ofNext (.advance _ .refl) h
  case jqb | jb | jdb => exact Effect.ofNext (.jump _ .refl) h
  case qor | qand | qrx | qbc | qadd | qsub | qladd | qlsub => exact Effect.ofFormQR h
  case als | al => exact Effect.ofNext (.advance _ (.setL _ .refl)) h
  case asl | as => exact Effect.ofNext (.advance _ (.setS _ .refl)) h
  case cst => exact Effect.ofCst h
  case ret => exact Effect.ofRet (.inr ⟨_, rfl⟩) (.setS _ .refl) h
  case lip => exact Effect.ofNext (.advance _ (.push _ (.afterPregRead _ .refl))) h
  case sip => exact Effect.ofSip h
  case rb | rai | rri => exact Effect.ofMemRead h fun _ => .ofNext (.advance _ (.writeR _ _ .refl))
  case wb | wsb | psb => exact Effect.ofMemWrite h (.ofNext (.advance _ (.pop _ (.storeWord _ _ .refl))))
  case rsb | lgf => exact Effect.ofMemRead h fun _ => .ofNext (.advance _ (.push _ .refl))
  case lri0 | lri1 | lri2 | lri3 | lri4 | lri5 | lri6 | lri7 | lri8 | lri9 | lri10 | lri11 | lri12 | lri13 |
      lri14 | lri15 => exact Effect.ofLoadThroughLocal h
  case sri0 | sri1 | sri2 | sri3 | sri4 | sri5 | sri6 | sri7 | sri8 | sri9 | sri10 | sri11 | sri12 | sri13 |
      sri14 | sri15 => exact Effect.ofStoreThroughLocal h
  case ror | rand | rrx | rbc | radd | rsub | rladd | rlsub | rxor | rfu | rvadd | rvsub | ruadd | rusub =>
    exact Effect.ofFormRR h
  case reservedC9 | reservedCB | reservedDF | reservedE0 | reservedE4 | reservedE8 | reservedEC => cases h
  case fsdb => exact Effect.ofNext (.advance _ (.pop _ (.setField _ .refl))) h
  case wai | wri => exact Effect.ofMemWrite h (.ofNext (.advance _ (.storeWord _ _ .refl)))
  case ioda =>
    exact Effect.ofBusCommand h (.ofNext (.advance _ (.writeR _ _ (.afterBusRead _ _ .refl))))
      (.ofNext (.advance _ (.pop _ (.afterBusWrite _ _ _ .refl))))
  case iod =>
    exact Effect.ofBusCommand h (.ofNext (.advance _ (.push _ (.afterBusRead _ _ .refl))))
      (.ofNext (.advance _ (.pop _ (.afterBusWrite _ _ _ .refl))))
  case ion =>
    exact Effect.ofBusCommand h (.ofNext (.advance _ (.writeR _ _ (.afterBusRead _ _ .refl))))
      (.ofNext (.advance _ (.afterBusWrite _ _ _ .refl)))
  case rjeb | rjlb | rjleb | rjneb | rjgeb | rjgb | rjnebj | rjgebj | rjgbj | rjebj | rjlbj | rjlebj =>
    exact Effect.ofFormRJB h
  case jebb | jnebb | jebbj | jnebbj => exact Effect.ofFormJBB h
  case shl | shr => exact Effect.ofNext (.advance _ (.writeR _ _ .refl)) h
  case shdl | shdr | exdis => exact Effect.ofNext (.advance _ (.replaceTwo _ .refl)) h
  case or | and | rx | add | sub | ladd | lsub => exact Effect.ofStackAlu h
  case bc => exact Effect.ofBc h
  case dis => exact Effect.ofNext (.advance _ (.pop _ .refl)) h
  case sfc => exact Effect.ofCall (.pop 1 .refl) rfl h
  case sfci =>
    obtain ⟨v, _, h⟩ := State.memRead_next h
    split at h
    · exact .ofCall (.pop _ .refl) rfl h
    · exact .ofCall .refl rfl h
  case retn => exact Effect.ofRet (.inl rfl) .refl h
  case jsd | jsr => exact Effect.ofNext (.jump _ (.pop _ .refl)) h
  case kfc => exact Effect.ofKfc h
  case sr0 | sr1 | sr2 | sr3 | sr4 | sr5 | sr6 | sr7 | sr8 | sr9 | sr10 | sr11 | sr12 | sr13 | sr14 | sr15 =>
    exact Effect.ofNext (.advance _ (.pop _ (.writeR _ _ .refl))) h

theorem Effect.keeps_params {i : Instr} {s t : State} (h : Effect i s t) : t.params = s.params := by
  cases h with
  | edited hu => exact hu.keeps.2
  | called _ _ hu _ _ => exact hu.keeps.2
  | entered _ => rfl
  | returned _ _ _ hu _ => exact hu.keeps.2

/-- Settles O13: a step that is not the end of a run is an instruction, and no effect touches the parameters. -/
theorem noStepChangesTheLaunchParameters : Obligations.NoStepChangesTheLaunchParameters := by
  intro s t h
  rcases step_next h with ⟨_, rfl⟩ | ⟨_, i, hi⟩
  · rfl
  · exact (exec_effect hi).keeps_params

/-- Settles O18, by the four effects an instruction can have. -/
theorem linkStackIsOnlyPushedAndPopped : Obligations.LinkStackIsOnlyPushedAndPopped := by
  intro i s t h
  cases exec_effect h with
  | edited hu => exact .inl hu.keeps.1
  | @called u target len hu hL _ =>
    have hCS : u.CS = s.CS := hu.keeps.1
    exact .inr (.inl ⟨u.pc + BitVec.ofNat 32 len, by simp [State.linked, hL, hCS], hL⟩)
  | entered _ => exact .inr (.inl ⟨_, rfl, rfl⟩)
  | returned link rest hi hu hCS => exact .inr (.inr ⟨link, hu.keeps.1 ▸ hCS, rfl, rfl, hi⟩)

end Sys2Proof.Machine

/-! SUPPORT. The invariant `State.WF`: every state operation keeps it, so every effect of an instruction and every step
does. The statements O10 and O11. -/
namespace Sys2Proof.Machine

/-- The four bytes of a word, most significant first, make the word (R53). -/
theorem append_bytes (v : Word) :
    v.extractLsb' 24 8 ++ v.extractLsb' 16 8 ++ v.extractLsb' 8 8 ++ v.extractLsb' 0 8 = v := by
  rw [BitVec.extractLsb'_append_extractLsb'_eq_extractLsb' (start₂ := 24) (start₁ := 16) rfl,
    BitVec.extractLsb'_append_extractLsb'_eq_extractLsb' (start₂ := 16) (start₁ := 8) rfl,
    BitVec.extractLsb'_append_extractLsb'_eq_extractLsb' (start₂ := 8) (start₁ := 0) rfl]
  exact BitVec.extractLsb'_eq_self

/-- Reading a word after a word is stored: the new one at its own address, every other as before (R51, R53). -/
theorem Memory.readWord_writeWord (m : Memory) (a v b : Word) :
    Memory.readWord (Memory.writeWord m a v) b = if b = a then some v else Memory.readWord m b := by
  by_cases h : b = a
  · subst h
    simp [Memory.readWord, Memory.read_writeWord, append_bytes]
  · have apart : b.toNat ≠ a.toNat := fun e => h (BitVec.eq_of_toNat_eq e)
    have other (k : Nat) (hk : k < 4) :
        Memory.read (Memory.writeWord m a v) (4 * b.toNat + k) = Memory.read m (4 * b.toNat + k) := by
      rw [Memory.read_writeWord, if_neg (by omega), if_neg (by omega), if_neg (by omega), if_neg (by omega)]
    have byte0 := other 0 (by omega)
    rw [Nat.add_zero] at byte0
    simp only [Memory.readWord, byte0, other 1 (by omega), other 2 (by omega), other 3 (by omega), if_neg h]

theorem State.csFull_eq_false_iff (s : State) :
    s.csFull = false ↔ ∀ d, s.params.csDepth = some d → s.CS.length < d := by
  unfold State.csFull
  split <;> simp_all

namespace State.WF
variable {s : State}

theorem writeR (i : StackIdx) (v : Word) (h : s.WF) : (s.writeR i v).WF :=
  { h with
    spare := fun k above => by
      have below := s.wrap_lt i
      rw [State.writeR_nstack] at above
      simpa [Vector.getElem_set_ne _ _ (show (s.wrap i).toNat ≠ k.val by omega)] using h.spare k above }

theorem setS (i : StackIdx) (h : s.WF) : (s.setS i).WF := { h with topBelow := s.wrap_lt i }

theorem setL (i : StackIdx) (h : s.WF) : (s.setL i).WF := { h with localsBelow := s.wrap_lt i }

theorem storeWord (a v : Word) (h : s.WF) : (s.storeWord a v).WF :=
  { h with
    mem := Memory.wf_writeWord s.mem a v h.mem
    storedRises := natsRise_insertRising s.stored a.toNat h.storedRises
    storedHeld := fun b hb => by
      rw [State.storeWord_mem, Memory.readWord_writeWord]
      rcases (mem_insertRising s.stored a.toNat b).mp hb with rfl | old
      · exact ⟨a.isLt, v, by simp⟩
      · obtain ⟨range, w, held⟩ := h.storedHeld b old
        refine ⟨range, if BitVec.ofNat 32 b = a then v else w, ?_⟩
        rw [held]
        split <;> rfl }

theorem afterPregRead (i : Byte) (h : s.WF) : (s.afterPregRead i).WF := by
  rcases s.afterPregRead_cases i with ⟨_, drawn⟩ | ⟨_, same⟩
  · rw [drawn]
    exact { h with }
  · rwa [same]

/-- Whatever edits the state keeps the invariant. -/
theorem edits {u : State} (h : s.WF) (hu : s.Edits u) : u.WF := by
  induction hu with
  | refl => exact h
  | writeR i v _ ih => exact ih.writeR i v
  | setS i _ ih => exact ih.setS i
  | setL i _ ih => exact ih.setL i
  | storeWord a v _ ih => exact ih.storeWord a v
  | afterPregRead i _ ih => exact ih.afterPregRead i
  | writeAux _ _ _ ih | writeConst _ _ _ ih | setCarry _ _ ih | setField _ _ ih | setPReg _ _ _ ih | setKernel _ _ ih
  | setTrapsEnabled _ _ ih | advance _ _ ih | jump _ _ ih | afterBusRead _ _ _ ih | afterBusWrite _ _ _ _ ih =>
    exact { ih with }

/-- A link pushed where there is room keeps `CS` within its depth and the saved `L` below `NSTACK` (R23, R34). -/
theorem linked (len : Nat) (room : s.csFull = false) (h : s.WF) : (s.linked len).WF :=
  { h with
    linksBelow := List.forall_mem_cons.mpr ⟨h.localsBelow, h.linksBelow⟩
    depth := s.csFull_eq_false_iff.mp room }

/-- A return takes an `L` that was saved below `NSTACK` (R17, R23). -/
theorem returned {link : Link} {rest : List Link} (hCS : s.CS = link :: rest) (h : s.WF) :
    ({ s with CS := rest, pc := link.ret, L := link.savedL } : State).WF := by
  obtain ⟨below, restBelow⟩ := List.forall_mem_cons.mp (hCS ▸ h.linksBelow)
  exact { h with
    localsBelow := below
    linksBelow := restBelow
    depth := fun d hd => Nat.le_of_lt (by simpa [hCS] using h.depth d hd) }

theorem effect {i : Instr} {t : State} (h : s.WF) (e : Effect i s t) : t.WF := by
  cases e with
  | edited hu => exact h.edits hu
  | called target len hu _ room => exact { (h.edits hu).linked len room with }
  | entered room => exact { h.linked 1 room with }
  | returned link rest _ hu hCS => exact (h.edits hu).returned hCS

end State.WF

/-- Settles O10: nothing is stored or linked yet, and every slot is blank. -/
theorem resetIsWellFormed : Obligations.ResetIsWellFormed where
  mem := Memory.wf_nil
  topBelow := by decide
  localsBelow := by decide
  linksBelow := List.forall_mem_nil _
  depth := fun _ none => nomatch none
  spare := fun i _ => by simp [State.reset]
  storedRises := rfl
  storedHeld := List.forall_mem_nil _

/-- Settles O11: a run that has ended stands still; every other step is an effect, and each effect keeps the
invariant. -/
theorem stepKeepsWellFormedness : Obligations.StepKeepsWellFormedness := by
  intro s t h hstep
  rcases step_next hstep with ⟨_, rfl⟩ | ⟨_, i, hi⟩
  · exact h
  · exact h.effect (exec_effect hi)

end Sys2Proof.Machine

/-! SUPPORT. The inversion of `exec` for the registers and flags that few instructions write (R25 to R28, R30 to R33): who
writes which of them. Then the statements O12, O14 and O16. -/
namespace Sys2Proof.Machine

/-! ## The carry an operation leaves (R28) -/

/-- The carry after an operation that goes on: cleared, the carry or borrow out, or as it was. -/
def AluOp.carryOut (op : AluOp) (a b : Word) (c : Bool) : Bool :=
  match op with
  | .add | .sub | .ladd | .lsub => false
  | .uadd => (uAdd a b c).2
  | .usub => (uSub a b c).2
  | .or | .and | .rx | .bc | .xor | .fu | .vadd | .vsub => c

theorem State.alu_carryOut {s t : State} {op : AluOp} {a b : Word} {k : Word → State → Result}
    (h : s.alu op a b k = .next t) : ∃ r, k r (s.setCarry (op.carryOut a b s.carry)) = .next t := by
  cases op <;> simp only [State.alu] at h
  case rx =>
    obtain ⟨v, _, hk⟩ := State.memRead_next h
    exact ⟨v, hk⟩
  case bc | add | sub | ladd | lsub =>
    split at h
    · exact absurd h (s.raise_ne_next t _)
    · exact ⟨_, h⟩
  case or | and | xor | fu | vadd | vsub | uadd | usub => exact ⟨_, h⟩

/-- What the carry may become under an instruction (R28). -/
def CarryRule (i : Instr) (old new : Bool) : Prop :=
  (clearsCarry i = true → new = false) ∧ (clearsCarry i = false → setsCarry i = false → new = old)

theorem carryRule_of_keeps {i : Instr} {old new : Bool} (hi : clearsCarry i = false) (keep : new = old) :
    CarryRule i old new :=
  ⟨fun clears => absurd clears (by simp [hi]), fun _ _ => keep⟩

/-! ## The registers and flags few instructions write -/

/-- The mode bits, the carry, `Field`, `Aux`, `Const` and the own words of the PReg numbers. -/
structure Specials where
  kernel : Bool
  trapsEnabled : Bool
  carry : Bool
  Field : Word
  Aux : Vector Word 16
  Const : Vector Word 12
  PReg : Vector Word 256

def State.specials (s : State) : Specials where
  kernel := s.kernel
  trapsEnabled := s.trapsEnabled
  carry := s.carry
  Field := s.Field
  Aux := s.Aux
  Const := s.Const
  PReg := s.PReg

section
variable {s t : State} (same : t.specials = s.specials)
include same

theorem kernel_of_specials : t.kernel = s.kernel := congrArg Specials.kernel same

theorem trapsEnabled_of_specials : t.trapsEnabled = s.trapsEnabled := congrArg Specials.trapsEnabled same

theorem carry_of_specials : t.carry = s.carry := congrArg Specials.carry same

theorem Field_of_specials : t.Field = s.Field := congrArg Specials.Field same

theorem readAux_of_specials (n : Nibble) : t.readAux n = s.readAux n := congrArg (·.Aux[n.toNat]) same

theorem readConst_of_specials (n : Fin 12) : t.readConst n = s.readConst n := congrArg (·.Const[n.val]) same

theorem PReg_of_specials : t.PReg = s.PReg := congrArg Specials.PReg same

end

theorem State.branch_specials (s : State) (taken : Bool) (beta : Byte) : (s.branch taken beta).specials = s.specials := by
  cases taken <;> rfl

theorem State.afterPregRead_specials (s : State) (i : Byte) : (s.afterPregRead i).specials = s.specials := by
  rcases s.afterPregRead_cases i with ⟨_, h⟩ | ⟨_, h⟩
  · rw [h]; rfl
  · rw [h]

/-- A destination is a register of `R`, `Aux` or `Const` (R218). -/
theorem State.writeDst_specials (s : State) (rc : Dst) (pops : StackIdx) (r : Word) :
    ∃ aux const, (s.writeDst rc pops r).specials = ({ s with Aux := aux, Const := const } : State).specials := by
  cases rc <;> exact ⟨_, _, rfl⟩

/-! ## A write to the piece of state a PReg number stands for (R33, log 18) -/

section
variable (s : State) (x : PRegTarget) (v : Word)

theorem State.writeTarget_kernel : x = .kernel ∨ (s.writeTarget x v).kernel = s.kernel := by
  cases x with
  | kernel => exact .inl rfl
  | _ => exact .inr rfl

theorem State.writeTarget_trapsEnabled : x = .trapsEnabled ∨ (s.writeTarget x v).trapsEnabled = s.trapsEnabled := by
  cases x with
  | trapsEnabled => exact .inl rfl
  | _ => exact .inr rfl

theorem State.writeTarget_carry : x = .carry ∨ (s.writeTarget x v).carry = s.carry := by
  cases x with
  | carry => exact .inl rfl
  | _ => exact .inr rfl

theorem State.writeTarget_Field : x = .field ∨ (s.writeTarget x v).Field = s.Field := by
  cases x with
  | field => exact .inl rfl
  | _ => exact .inr rfl

theorem State.writeTarget_readAux (n : Nibble) : x = .aux n ∨ (s.writeTarget x v).readAux n = s.readAux n := by
  cases x with
  | aux m =>
    by_cases h : n = m
    · exact .inl (h ▸ rfl)
    · exact .inr ((s.readAux_writeAux n m v).trans (if_neg h))
  | _ => exact .inr rfl

theorem State.writeTarget_readConst (n : Fin 12) : x = .const n ∨ (s.writeTarget x v).readConst n = s.readConst n := by
  cases x with
  | const m =>
    by_cases h : n = m
    · exact .inl (h ▸ rfl)
    · exact .inr ((s.readConst_writeConst n m v).trans (if_neg h))
  | _ => exact .inr rfl

end

/-- What holds unless the number stands for `y` holds, or the SIP of it sets `y`. -/
theorem or_setsByPReg {s : State} {a : Byte} {x y : PRegTarget} {p : Prop} (state : (s.pregMeaning a).write = .state x)
    (h : x = y ∨ p) : p ∨ setsByPReg s (.sip a) y = true :=
  h.symm.imp_right fun e => decide_eq_true (state.trans (congrArg _ e))

/-- A SIP that goes on runs in kernel mode and does what its number's configuration says (R145). -/
theorem execSip_next {s t : State} {a : Byte} (h : execSip a s = .next t) :
    s.kernel = true ∧
      ((s.pregMeaning a).write = .ignore ∧ t.specials = s.specials ∨
        (s.pregMeaning a).write = .own ∧ t.specials = (s.setPReg a (s.readR s.S)).specials ∨
        ∃ x, (s.pregMeaning a).write = .state x ∧ t.specials = (s.writeTarget x (s.readR s.S)).specials) := by
  unfold execSip at h
  split at h
  · refine ⟨‹_›, ?_⟩
    rcases State.pregWrite_next h with ⟨own, hk⟩ | ⟨ignore, hk⟩ | ⟨x, state, hk⟩
    · exact .inr (.inl ⟨own, Host.Outcome.next.inj hk ▸ rfl⟩)
    · exact .inl ⟨ignore, Host.Outcome.next.inj hk ▸ rfl⟩
    · refine .inr (.inr ⟨x, state, Host.Outcome.next.inj hk ▸ ?_⟩)
      cases x <;> rfl
  · exact absurd h (s.raise_ne_next t _)

/-! ## The inversion of `exec` -/

/-- What an instruction that goes on leaves in these registers and flags: at most the carry changed; forms RR and QR, a
destination too; FSDB, KFC and SIP their own. -/
inductive SpecialsEffect (i : Instr) (s t : State) : Prop
  | carryOnly (c : Bool) (rule : CarryRule i s.carry c) (same : t.specials = (s.setCarry c).specials)
  | destination (c : Bool) (aux : Vector Word 16) (const : Vector Word 12) (names : namesDestination i = true)
      (rule : CarryRule i s.carry c)
      (same : t.specials = ({ s.setCarry c with Aux := aux, Const := const } : State).specials)
  | field (a b : Byte) (v : Word) (hi : i = .fsdb a b) (same : t.specials = (s.setField v).specials)
  | entered (hi : i = .kfc) (same : t.specials = ((s.setKernel true).setTrapsEnabled false).specials)
  | pregOwn (a : Byte) (v : Word) (hi : i = .sip a) (kernel : s.kernel = true) (own : (s.pregMeaning a).write = .own)
      (same : t.specials = (s.setPReg a v).specials)
  | pregState (a : Byte) (x : PRegTarget) (v : Word) (hi : i = .sip a) (state : (s.pregMeaning a).write = .state x)
      (same : t.specials = (s.writeTarget x v).specials)

namespace SpecialsEffect
variable {i : Instr} {s t : State}

theorem kept (hi : clearsCarry i = false) (same : t.specials = s.specials) : SpecialsEffect i s t :=
  .carryOnly s.carry (carryRule_of_keeps hi rfl) same

theorem ofNext {u : State} (hi : clearsCarry i = false) (h : Host.Outcome.next u = (.next t : Result))
    (same : u.specials = s.specials) : SpecialsEffect i s t :=
  Host.Outcome.next.inj h ▸ kept hi same

theorem ofMemRead {a : Word} {k : Word → Result} (h : s.memRead a k = .next t)
    (hk : ∀ m, k m = .next t → SpecialsEffect i s t) : SpecialsEffect i s t := by
  obtain ⟨m, _, hm⟩ := State.memRead_next h
  exact hk m hm

theorem ofMemWrite {a v : Word} {k : State → Result} (h : s.memWrite a v k = .next t)
    (hk : k (s.storeWord a v) = .next t → SpecialsEffect i s t) : SpecialsEffect i s t :=
  hk (State.memWrite_next h).2

theorem ofBusCommand {op cmd : Byte} {onRead onWrite : Result} (h : s.busCommand op cmd onRead onWrite = .next t)
    (hr : onRead = .next t → SpecialsEffect i s t) (hw : onWrite = .next t → SpecialsEffect i s t) :
    SpecialsEffect i s t := by
  rcases State.busCommand_next h with ⟨_, _, h⟩ | ⟨_, _, h⟩
  · exact hr h
  · exact hw h

theorem ofTakeXop {op : Byte} {len : Nat} {operands : List Byte} (hi : clearsCarry i = false)
    (h : s.takeXop op len operands = .next t) : SpecialsEffect i s t := by
  obtain ⟨_, _, _, rfl⟩ := State.takeXop_next h
  exact kept hi rfl

theorem ofCall {u : State} {target : Word} {len : Nat} (hi : clearsCarry i = false)
    (h : u.call target len = .next t) (same : u.specials = s.specials) : SpecialsEffect i s t := by
  obtain ⟨_, rfl⟩ := State.call_next h
  exact kept hi same

theorem ofRet {u : State} (hi : clearsCarry i = false) (h : u.ret = .next t) (same : u.specials = s.specials) :
    SpecialsEffect i s t := by
  obtain ⟨_, _, _, rfl⟩ := State.ret_next h
  exact kept hi same

theorem ofFormJBB {c : Cond} {alpha beta : Byte} (hi : clearsCarry i = false) (h : s.formJBB c alpha beta = .next t) :
    SpecialsEffect i s t :=
  ofNext hi h (State.branch_specials _ _ _)

theorem ofFormRJB {c : Cond} {rs : RjbSrc} {rb : Src} {beta : Byte} (hi : clearsCarry i = false)
    (h : s.formRJB c rs rb beta = .next t) : SpecialsEffect i s t :=
  ofNext hi h (State.branch_specials _ _ _)

theorem ofLoadThroughLocal {n : Nibble} {alpha : Byte} (hi : clearsCarry i = false)
    (h : s.loadThroughLocal n alpha = .next t) : SpecialsEffect i s t :=
  ofMemRead h fun _ h => ofNext hi h rfl

theorem ofStoreThroughLocal {n : Nibble} {alpha : Byte} (hi : clearsCarry i = false)
    (h : s.storeThroughLocal n alpha = .next t) : SpecialsEffect i s t :=
  ofMemWrite h fun h => ofNext hi h rfl

section
variable {op : AluOp} (rule : ∀ a b c, CarryRule i c (op.carryOut a b c))
include rule

theorem ofStackAlu {a b : Word} (h : s.stackAlu op a b = .next t) : SpecialsEffect i s t := by
  obtain ⟨r, hk⟩ := State.alu_carryOut h
  obtain rfl := Host.Outcome.next.inj hk
  exact .carryOnly _ (rule a b s.carry) rfl

theorem ofLiteralAlu {v : Word} {len : Nat} (h : s.literalAlu op v len = .next t) : SpecialsEffect i s t := by
  obtain ⟨r, hk⟩ := State.alu_carryOut h
  obtain rfl := Host.Outcome.next.inj hk
  exact .carryOnly _ (rule _ v s.carry) rfl

theorem ofRegAlu {ra rb : Src} {rc : Dst} {len : Nat} (names : namesDestination i = true)
    (h : s.regAlu op ra rb rc len = .next t) : SpecialsEffect i s t := by
  obtain ⟨r, hk⟩ := State.alu_carryOut h
  obtain rfl := Host.Outcome.next.inj hk
  obtain ⟨aux, const, written⟩ := State.writeDst_specials
    (s.setCarry (op.carryOut (s.readSrc ra) (s.readSrc rb) s.carry)) rc (srcPops ra + srcPops rb) r
  exact .destination _ aux const names (rule _ _ s.carry) written

theorem ofFormRR {opcode : Byte} {ra rb : Src} {rc : Dst} (names : namesDestination i = true)
    (h : s.formRR opcode op ra rb rc = .next t) : SpecialsEffect i s t :=
  ofRegAlu rule names (State.formRR_next h).2

theorem ofFormQR {sel : QrSel} {rb : Src} (names : namesDestination i = true)
    (h : s.formQR op sel rb = .next t) : SpecialsEffect i s t :=
  ofRegAlu rule names h

end

theorem ofBc (h : execBc s = .next t) : SpecialsEffect .bc s t := by
  obtain ⟨_, hk⟩ := State.alu_carryOut h
  exact ofNext rfl hk rfl

theorem ofCst {a : Byte} (h : execCst a s = .next t) : SpecialsEffect (.cst a) s t := by
  obtain ⟨m, _, h⟩ := State.memRead_next h
  split at h
  · exact ofMemWrite h fun h => ofNext rfl h rfl
  · exact ofNext rfl h rfl

theorem ofSfci (h : execSfci s = .next t) : SpecialsEffect .sfci s t := by
  obtain ⟨v, _, h⟩ := State.memRead_next h
  rw [sfci_state] at h
  exact ofCall rfl h rfl

theorem ofKfc (h : execKfc s = .next t) : SpecialsEffect .kfc s t := by
  obtain ⟨_, rfl⟩ := State.enterKernel_next h
  exact .entered rfl rfl

theorem ofFsdb {a b : Byte} (h : execFsdb a b s = .next t) : SpecialsEffect (.fsdb a b) s t := by
  obtain rfl := Host.Outcome.next.inj h
  exact .field a b _ rfl rfl

theorem ofSip {a : Byte} (h : execSip a s = .next t) : SpecialsEffect (.sip a) s t := by
  obtain ⟨kernel, ⟨_, same⟩ | ⟨own, same⟩ | ⟨x, state, same⟩⟩ := execSip_next h
  · exact kept rfl same
  · exact .pregOwn a _ rfl kernel own same
  · exact .pregState a x _ rfl state same

end SpecialsEffect

open SpecialsEffect in
/-- The inversion of `exec` for these registers and flags. -/
theorem exec_specials {i : Instr} {s t : State} (h : exec i s = .next t) : SpecialsEffect i s t := by
  unfold exec at h
  cases i
  case xop20 | xop21 | xop22 | xop23 | xop24 | xop25 | xop26 | xop27 | xop28 | xop29 | xop2A | xop2B | xop2C |
      xop2D | xop2E | xop2F | xop30 | xop33 | xop38 | xop39 | xop3A | xop3B | xop3C | xop3D | xop3E | xop3F |
      xop8D | xop8F | xop93 | xop9C | xop9D | xop9E | xopF4 | xopF5 | xopF6 | xopF7 | xopFC | xopFD | xopFE |
      xopFF | xop00 | xop01 | xop02 | xop03 | xop04 | xop05 | xop06 | xop07 | xop08 | xop09 | xop0A | xop0B |
      xop0C | xop0D | xop0E | xop0F | xop1C | xop1D | xop1E | xop1F | xop4A | xop50 | xop51 | xop52 | xop53 |
      xop55 | xop58 | xop59 | xop5A | xop5B | xop5C | xop5D | xop5E | xop5F => exact ofTakeXop rfl h
  case reservedC9 | reservedCB | reservedDF | reservedE0 | reservedE4 | reservedE8 | reservedEC => cases h
  -- the instructions that leave all of them alone
  case liqb | lib | lidb | lc0 | lc1 | lc2 | lc3 | lc4 | lc5 | lc6 | lc7 | lc8 | lc9 | lc10 | lc11 | dup | lr0 |
      lr1 | lr2 | lr3 | lr4 | lr5 | lr6 | lr7 | lr8 | lr9 | lr10 | lr11 | lr12 | lr13 | lr14 | lr15 | sr0 | sr1 |
      sr2 | sr3 | sr4 | sr5 | sr6 | sr7 | sr8 | sr9 | sr10 | sr11 | sr12 | sr13 | sr14 | sr15 | j1 | j2 | j3 | j5 |
      jb | jdb | jqb | jsd | jsr | al | als | as | asl | dis | exdis | shl | shr | shdl | shdr => exact ofNext rfl h rfl
  case lip => exact ofNext rfl h (State.afterPregRead_specials s _)
  case dfc | lfc | sfc => exact ofCall rfl h rfl
  case sfci => exact ofSfci h
  case ret | retn => exact ofRet rfl h rfl
  case rb | rsb | lgf | rai | rri => exact ofMemRead h fun _ h => ofNext rfl h rfl
  case wb | wsb | psb | wai | wri => exact ofMemWrite h fun h => ofNext rfl h rfl
  case cst => exact ofCst h
  case lri0 | lri1 | lri2 | lri3 | lri4 | lri5 | lri6 | lri7 | lri8 | lri9 | lri10 | lri11 | lri12 | lri13 |
      lri14 | lri15 => exact ofLoadThroughLocal rfl h
  case sri0 | sri1 | sri2 | sri3 | sri4 | sri5 | sri6 | sri7 | sri8 | sri9 | sri10 | sri11 | sri12 | sri13 |
      sri14 | sri15 => exact ofStoreThroughLocal rfl h
  case ioda | iod | ion => exact ofBusCommand h (ofNext rfl · rfl) (ofNext rfl · rfl)
  case rjeb | rjlb | rjleb | rjneb | rjgeb | rjgb | rjnebj | rjgebj | rjgbj | rjebj | rjlbj | rjlebj =>
    exact ofFormRJB rfl h
  case jebb | jnebb | jebbj | jnebbj => exact ofFormJBB rfl h
  case bc => exact ofBc h
  -- the arithmetic: which operations clear the carry, set it or leave it
  case or | and | rx => exact ofStackAlu (fun _ _ _ => carryRule_of_keeps rfl rfl) h
  case add | sub | ladd | lsub => exact ofStackAlu (fun _ _ _ => ⟨fun _ => rfl, nofun⟩) h
  case addqb | subqb | addb | subb | adddb | subdb => exact ofLiteralAlu (fun _ _ _ => ⟨fun _ => rfl, nofun⟩) h
  case qor | qand | qrx | qbc => exact ofFormQR (fun _ _ _ => carryRule_of_keeps rfl rfl) rfl h
  case qadd | qsub | qladd | qlsub => exact ofFormQR (fun _ _ _ => ⟨fun _ => rfl, nofun⟩) rfl h
  case ror | rand | rrx | rbc | rxor | rfu | rvadd | rvsub =>
    exact ofFormRR (fun _ _ _ => carryRule_of_keeps rfl rfl) rfl h
  case radd | rsub | rladd | rlsub => exact ofFormRR (fun _ _ _ => ⟨fun _ => rfl, nofun⟩) rfl h
  case ruadd | rusub => exact ofFormRR (fun _ _ _ => ⟨nofun, fun _ => nofun⟩) rfl h
  -- the instructions with a register or flag of their own
  case fsdb => exact ofFsdb h
  case kfc => exact ofKfc h
  case sip => exact ofSip h

/-! ## Who writes each of them -/

namespace SpecialsEffect
variable {i : Instr} {s t : State}

theorem writes_kernel (e : SpecialsEffect i s t) :
    i = .kfc ∧ t.kernel = true ∨ t.kernel = s.kernel ∨ setsByPReg s i .kernel = true := by
  cases e with
  | entered hi same => exact .inl ⟨hi, kernel_of_specials same⟩
  | pregState a x v hi state same =>
    subst hi
    exact .inr (or_setsByPReg state ((s.writeTarget_kernel x v).imp_right (kernel_of_specials same).trans))
  | carryOnly _ _ same | destination _ _ _ _ _ same | field _ _ _ _ same | pregOwn _ _ _ _ _ same =>
    exact .inr (.inl (kernel_of_specials same :))

theorem writes_trapsEnabled (e : SpecialsEffect i s t) :
    i = .kfc ∧ t.trapsEnabled = false ∨ t.trapsEnabled = s.trapsEnabled ∨ setsByPReg s i .trapsEnabled = true := by
  cases e with
  | entered hi same => exact .inl ⟨hi, trapsEnabled_of_specials same⟩
  | pregState a x v hi state same =>
    subst hi
    exact .inr (or_setsByPReg state ((s.writeTarget_trapsEnabled x v).imp_right (trapsEnabled_of_specials same).trans))
  | carryOnly _ _ same | destination _ _ _ _ _ same | field _ _ _ _ same | pregOwn _ _ _ _ _ same =>
    exact .inr (.inl (trapsEnabled_of_specials same :))

theorem writes_carry (e : SpecialsEffect i s t) :
    CarryRule i s.carry t.carry ∨ clearsCarry i = false ∧ setsByPReg s i .carry = true := by
  cases e with
  | carryOnly _ rule same | destination _ _ _ _ rule same => exact .inl (carry_of_specials same ▸ rule)
  | field _ _ _ hi same | entered hi same | pregOwn _ _ hi _ _ same =>
    subst hi
    exact .inl (carryRule_of_keeps rfl (carry_of_specials same :))
  | pregState a x v hi state same =>
    subst hi
    rcases or_setsByPReg state ((s.writeTarget_carry x v).imp_right (carry_of_specials same).trans) with keep | sets
    · exact .inl (carryRule_of_keeps rfl keep)
    · exact .inr ⟨rfl, sets⟩

theorem writes_Field (e : SpecialsEffect i s t) :
    t.Field = s.Field ∨ (∃ a b, i = .fsdb a b) ∨ setsByPReg s i .field = true := by
  cases e with
  | field a b _ hi _ => exact .inr (.inl ⟨a, b, hi⟩)
  | pregState a x v hi state same =>
    subst hi
    exact (or_setsByPReg state ((s.writeTarget_Field x v).imp_right (Field_of_specials same).trans)).imp_right .inr
  | carryOnly _ _ same | destination _ _ _ _ _ same | entered _ same | pregOwn _ _ _ _ _ same =>
    exact .inl (Field_of_specials same :)

theorem writes_Aux (e : SpecialsEffect i s t) (unnamed : namesDestination i = false) (n : Nibble) :
    t.readAux n = s.readAux n ∨ setsByPReg s i (.aux n) = true := by
  cases e with
  | destination _ _ _ names _ _ => exact absurd names (by simp [unnamed])
  | pregState a x v hi state same =>
    subst hi
    exact or_setsByPReg state ((s.writeTarget_readAux x v n).imp_right (readAux_of_specials same n).trans)
  | carryOnly _ _ same | field _ _ _ _ same | entered _ same | pregOwn _ _ _ _ _ same =>
    exact .inl (readAux_of_specials same n :)

theorem writes_Const (e : SpecialsEffect i s t) (unnamed : namesDestination i = false) (n : Fin 12) :
    t.readConst n = s.readConst n ∨ setsByPReg s i (.const n) = true := by
  cases e with
  | destination _ _ _ names _ _ => exact absurd names (by simp [unnamed])
  | pregState a x v hi state same =>
    subst hi
    exact or_setsByPReg state ((s.writeTarget_readConst x v n).imp_right (readConst_of_specials same n).trans)
  | carryOnly _ _ same | field _ _ _ _ same | entered _ same | pregOwn _ _ _ _ _ same =>
    exact .inl (readConst_of_specials same n :)

theorem writes_PReg (e : SpecialsEffect i s t) (k : Byte) :
    t.PReg[k.toNat] = s.PReg[k.toNat] ∨ s.kernel = true ∧ i = .sip k ∧ (s.pregMeaning k).write = .own := by
  cases e with
  | pregOwn a v hi kernel own same =>
    by_cases h : a = k
    · subst h
      exact .inr ⟨kernel, hi, own⟩
    · have apart : a.toNat ≠ k.toNat := fun e => h (BitVec.eq_of_toNat_eq e)
      simp [PReg_of_specials same, Vector.getElem_set_ne _ _ apart]
  | pregState a x v hi state same => simp [PReg_of_specials same]
  | carryOnly _ _ same | destination _ _ _ _ _ same | field _ _ _ _ same | entered _ same =>
    simp [PReg_of_specials same]

end SpecialsEffect

/-- Settles O12: the modes are KFC's, or a configured SIP's, and SIP runs in kernel mode only. -/
theorem onlyKfcChangesTheModeBits : Obligations.OnlyKfcChangesTheModeBits := by
  intro i s t h
  have hk := (exec_specials h).writes_kernel
  have ht := (exec_specials h).writes_trapsEnabled
  refine ⟨?_, fun other => ⟨?_, ?_⟩, fun on => ?_, fun off => ?_, ?_⟩
  · rintro rfl
    obtain ⟨_, rfl⟩ := State.enterKernel_next h
    exact ⟨rfl, rfl⟩
  · exact hk.resolve_left fun k => other k.1
  · exact ht.resolve_left fun k => other k.1
  · rcases hk with ⟨_, entered⟩ | keep | sets
    · exact .inl entered
    · exact .inl (keep.trans on)
    · exact .inr sets
  · rcases ht with ⟨_, cleared⟩ | keep | sets
    · exact .inl cleared
    · exact .inl (keep.trans off)
    · exact .inr sets
  · rintro a rfl
    exact (execSip_next h).1

/-- Settles O14, by the carry rule of each instruction. -/
theorem carryIsWrittenOnlyAsListed : Obligations.CarryIsWrittenOnlyAsListed := by
  intro i s t h
  rcases (exec_specials h).writes_carry with ⟨clear, keep⟩ | ⟨other, sets⟩
  · exact ⟨clear, fun hc hs => .inl (keep hc hs)⟩
  · exact ⟨fun clears => absurd clears (by simp [other]), fun _ _ => .inr sets⟩

/-- Settles O16: each register on its own. -/
theorem specialRegistersAreWrittenOnlyAsListed : Obligations.SpecialRegistersAreWrittenOnlyAsListed := by
  intro i s t h
  have e := exec_specials h
  exact ⟨e.writes_Field, fun unnamed => ⟨e.writes_Aux unnamed, e.writes_Const unnamed⟩, e.writes_PReg⟩

end Sys2Proof.Machine

/-! SUPPORT. Single instructions on the state: the index moves, FSDB, LIP and SIP, and the calls on a full link stack. The
statements O34, O35, O49, O50 and O60. -/
namespace Sys2Proof.Machine

/-! ## The index moves and FSDB -/

/-- A register is read at the remainder of its index modulo `NSTACK` (R20, R23). -/
theorem State.getElem?_mod_nstack (s : State) (i : StackIdx) :
    s.R[i.toNat % 2 ^ s.params.stackLog.val]? = some (s.readR i) := by
  have index : i.toNat % 2 ^ s.params.stackLog.val = (s.wrap i).toNat := (s.wrap_toNat i).symm
  rw [index]
  exact Vector.getElem?_eq_getElem (s.wrap i).isLt

/-- A state that differs from `s` in `S`, `L` and `pc` at most has only moved. -/
theorem moved_set (s : State) (newS newL : StackIdx) (newPc : Word) :
    Moved s { s with S := newS, L := newL, pc := newPc } newS newL newPc :=
  ⟨rfl, rfl, rfl, fun _ => rfl, rfl, ⟨fun _ => rfl, fun _ => rfl, rfl⟩, ⟨rfl, rfl, rfl, rfl, rfl, rfl, rfl⟩,
    fun _ => rfl, rfl⟩

/-- Settles O34: each of the five is the state with `S`, `L` and `pc` set. -/
theorem indexMovesComplete : Obligations.IndexMovesComplete := by
  refine ⟨fun s i => ⟨s.wrap_toNat i, s.getElem?_mod_nstack i⟩, fun s a i newS newL len hi => ?_⟩
  simp only [List.mem_cons, Prod.mk.injEq, List.not_mem_nil, or_false, ← alphaIdx_eq] at hi
  refine ⟨_, ?_, moved_set s newS newL (s.pc + BitVec.ofNat 32 len)⟩
  rcases hi with ⟨rfl, rfl, rfl, rfl⟩ | ⟨rfl, rfl, rfl, rfl⟩ | ⟨rfl, rfl, rfl, rfl⟩ | ⟨rfl, rfl, rfl, rfl⟩ |
    ⟨rfl, rfl, rfl, rfl⟩ <;> rfl

theorem alphaBetaZ_eq (a b : Byte) : alphaBetaZ a b = BitVec.ofNat 32 (a.toNat * 256 + b.toNat) :=
  calc
    alphaBetaZ a b = BitVec.ofInt 32 (alphaBetaZ a b).toInt := BitVec.ofInt_toInt.symm
    _ = BitVec.ofNat 32 (a.toNat * 256 + b.toNat) := by rw [alphaBetaZ_toInt, BitVec.ofInt_natCast]

/-- Settles O35: only `Field`, `S` and `pc` are written, so every other clause is by what reads leave alone. -/
theorem fieldSetupCompletes : Obligations.FieldSetupCompletes := by
  intro s a b
  rw [← alphaBetaZ_eq]
  exact ⟨_, rfl, rfl, rfl, rfl, rfl, rfl, fun _ => rfl, rfl, rfl, ⟨rfl, rfl, rfl, rfl, rfl, rfl, rfl⟩, fun _ => rfl, rfl⟩

/-! ## The processor registers -/

theorem pushed_push_advance (s : State) (v : Word) (len : Nat) : Pushed s ((s.push v).advance len) v len :=
  ⟨rfl, (s.readR_push · v), rfl, rfl, rfl, ⟨fun _ => rfl, fun _ => rfl, rfl⟩, ⟨rfl, rfl, rfl, rfl, rfl, rfl, rfl⟩,
    fun _ => rfl, rfl⟩

theorem exec_lip (s : State) (a : Byte) :
    exec (.lip a) s = .next (((s.afterPregRead a).push (s.pregRead a)).advance 2) := rfl

/-- LIP of a configured number pushes what it reads and uses up no draw (R33, R140). -/
theorem lip_of_configured {s : State} {a : Byte} {v : Word} (configured : (s.pregMeaning a).read ≠ .draw)
    (hv : s.pregRead a = v) : ∃ t, exec (.lip a) s = .next t ∧ Pushed s t v 2 := by
  obtain ⟨draw, _⟩ | ⟨_, same⟩ := s.afterPregRead_cases a
  · exact absurd draw configured
  · refine ⟨(s.push v).advance 2, ?_, pushed_push_advance s v 2⟩
    rw [exec_lip, same, hv]

/-- Settles O49: the configured kinds by what `pregRead` answers for them, the unconfigured one by the draw it uses up. -/
theorem processorRegisterReadCompletes : Obligations.ProcessorRegisterReadCompletes := by
  intro s a
  refine ⟨fun own => ?_, fun v fixed => ?_, fun j n c x v hx state => ?_, fun draw => ?_⟩
  · exact lip_of_configured (by simp [own]) (by simp [State.pregRead, own])
  · exact lip_of_configured (by simp [fixed]) (by simp [State.pregRead, fixed])
  · have target : s.readTarget x = v := by
      simp only [List.mem_cons, Prod.mk.injEq, List.not_mem_nil, or_false, BitVec.ofNat_toNat] at hx
      rcases hx with ⟨rfl, rfl⟩ | ⟨rfl, rfl⟩ | ⟨rfl, rfl⟩ | ⟨rfl, rfl⟩ | ⟨rfl, rfl⟩ | ⟨rfl, rfl⟩ | ⟨rfl, rfl⟩ |
        ⟨rfl, rfl⟩ | ⟨rfl, rfl⟩ | ⟨rfl, rfl⟩ <;> rfl
    exact lip_of_configured (by simp [state]) (by simpa [State.pregRead, state] using target)
  · refine ⟨(s.push (Config.pregAnswer s.draws a)).advance 2, ?_, pushed_push_advance _ _ 2⟩
    simp only [exec_lip, State.pregRead, State.afterPregRead, draw]
    rfl

/-! SIP in kernel mode is the write of its PReg number from the state advanced, then the pop; in user mode the trap (R145,
D36). -/

theorem exec_sip_kernel {s : State} (a : Byte) (kernel : s.kernel = true) :
    exec (.sip a) s = (s.advance 2).pregWrite a (s.readR s.S) fun t => .next (t.pop 1) :=
  if_pos kernel

theorem exec_sip_user {s : State} (a : Byte) (user : s.kernel = false) : exec (.sip a) s = s.raise .kernelOnly :=
  if_neg (by simp [user])

/-- A number that stands for a piece of state has it written before the pop (log 18). -/
theorem exec_sip_state {s : State} {a : Byte} {x : PRegTarget} (kernel : s.kernel = true)
    (state : (s.pregMeaning a).write = .state x) :
    exec (.sip a) s = .next (((s.advance 2).writeTarget x (s.readR s.S)).pop 1) :=
  (exec_sip_kernel a kernel).trans (State.pregWrite_state _ _ state)

/-- Settles O50: in kernel mode the configured write, then the pop and the advance; in user mode the trap. -/
theorem processorRegisterWriteIsPrivileged : Obligations.ProcessorRegisterWriteIsPrivileged := by
  intro s a
  refine ⟨fun kernel own => ?_, fun kernel ignore => ?_, fun j kernel state => ?_, fun n c x t hx kernel state => ?_,
    fun kernel refuse => ?_, fun user enabled => ?_, fun user disabled => ?_⟩
  · exact (exec_sip_kernel a kernel).trans (State.pregWrite_own _ _ own)
  · exact (exec_sip_kernel a kernel).trans (State.pregWrite_ignore _ _ ignore)
  · exact ⟨_, exec_sip_state kernel state, rfl, (s.readR_writeR · j _), rfl, rfl, rfl,
      ⟨fun _ => rfl, fun _ => rfl, rfl⟩, ⟨rfl, rfl, rfl, rfl, rfl, rfl, rfl⟩, fun _ => rfl, rfl⟩
  · rw [exec_sip_state kernel state]
    simp only [List.mem_cons, Prod.mk.injEq, List.not_mem_nil, or_false] at hx
    rcases hx with ⟨rfl, rfl⟩ | ⟨rfl, rfl⟩ | ⟨rfl, rfl⟩ | ⟨rfl, rfl⟩ | ⟨rfl, rfl⟩ | ⟨rfl, rfl⟩ | ⟨rfl, rfl⟩ |
      ⟨rfl, rfl⟩ | ⟨rfl, rfl⟩ <;> rfl
  · exact (exec_sip_kernel a kernel).trans (State.pregWrite_refuse _ _ refuse)
  · exact (exec_sip_user a user).trans (s.raise_enabled .kernelOnly enabled)
  · exact (exec_sip_user a user).trans (s.raise_disabled .kernelOnly disabled)

/-! ## A full link stack (R34) -/

theorem State.csFull_of_depth {s : State} {n : Nat} (depth : s.params.csDepth = some n) (full : n ≤ s.CS.length) :
    s.csFull = true := by
  simp [State.csFull, depth, full]

theorem State.pushLink_of_full {s : State} (len : Nat) (k : State → Result) (full : s.csFull = true) :
    s.pushLink len k = .refused .linkStackFull :=
  if_pos full

theorem State.call_of_full {s : State} (target : Word) (len : Nat) (full : s.csFull = true) :
    s.call target len = .refused .linkStackFull :=
  State.pushLink_of_full len _ full

theorem State.enterKernel_of_full {s : State} (full : s.csFull = true) : s.enterKernel = .refused .linkStackFull :=
  State.pushLink_of_full 1 _ full

/-- Each of the 74 xop instructions takes the xop entry with its row of the table (R275, R278). -/
theorem exec_of_mem_xopTable {a b g d : Byte} {i : Instr} {op : Byte} {len : Nat} {operands : List Byte}
    (h : (i, op, len, operands) ∈ xopTable a b g d) (s : State) : exec i s = s.takeXop op len operands := by
  have rows : (xopTable a b g d).map (fun row => exec row.1 s) =
      (xopTable a b g d).map fun row => s.takeXop row.2.1 row.2.2.1 row.2.2.2 := rfl
  exact List.map_inj_left.mp rows _ h

theorem State.takeXop_of_full {s : State} (op : Byte) (len : Nat) (operands : List Byte)
    (enabled : s.trapsEnabled = true) (continues : s.params.xopContinues = true) (full : s.csFull = true) :
    s.takeXop op len operands = .refused .linkStackFull := by
  have continued : (s.trapsEnabled && s.params.xopContinues) = true := by rw [enabled, continues]; rfl
  exact (if_pos continued).trans (State.pushLink_of_full len _ full)

/-- Settles O60: every one of them pushes a link, SFCI once its pointer word is read, an xop once it continues. -/
theorem callsOnAFullLinkStackAreRefused : Obligations.CallsOnAFullLinkStackAreRefused := by
  intro s n a b g d i depth atDepth
  have full : s.csFull = true := State.csFull_of_depth depth atDepth
  refine ⟨fun hi => ?_, fun v holds => ?_, fun op len operands enabled continues hi => ?_⟩
  · simp only [List.mem_cons, List.not_mem_nil, or_false] at hi
    rcases hi with rfl | rfl | rfl | rfl
    · exact State.call_of_full (s := s.pop 1) (s.readR s.S) 1 full
    · exact State.call_of_full (quad a b g d) 5 full
    · exact State.call_of_full (s.pc + alphaBetaS a b) 3 full
    · exact State.enterKernel_of_full full
  · have pointer : exec .sfci s = _ := State.memRead_of_holds _ holds
    rw [pointer, sfci_state]
    exact State.call_of_full v 1 full
  · rw [exec_of_mem_xopTable hi]
    exact State.takeXop_of_full op len operands enabled continues full

end Sys2Proof.Machine

/-! SUPPORT. Data memory (R51, R53): words and their bytes, and the loads and stores of one word. The statements O20, O21,
O42 and O43. -/
namespace Sys2Proof.Machine

/-! ## Words and their bytes -/

/-- Settles O20, by what `writeWord` makes of each word. -/
theorem storedWordReadsBack : Obligations.StoredWordReadsBack :=
  fun s a b v => Memory.readWord_writeWord s.mem a v b

/-- A word that holds a value is its four bytes, all of which hold one (R53). -/
theorem Memory.readWord_eq_some {m : Memory} {a w : Word} (h : Memory.readWord m a = some w) :
    ∃ b0 b1 b2 b3, w = b0 ++ b1 ++ b2 ++ b3 ∧
      Memory.read m (4 * a.toNat) = some b0 ∧ Memory.read m (4 * a.toNat + 1) = some b1 ∧
      Memory.read m (4 * a.toNat + 2) = some b2 ∧ Memory.read m (4 * a.toNat + 3) = some b3 := by
  unfold Memory.readWord at h
  split at h
  · exact ⟨_, _, _, _, (Option.some.inj h).symm, ‹_›, ‹_›, ‹_›, ‹_›⟩
  · cases h

/-- Each byte of a word put together from four, most significant first. -/
theorem extract_append_bytes (b0 b1 b2 b3 : Byte) :
    (b0 ++ b1 ++ b2 ++ b3).extractLsb' 24 8 = b0 ∧ (b0 ++ b1 ++ b2 ++ b3).extractLsb' 16 8 = b1 ∧
      (b0 ++ b1 ++ b2 ++ b3).extractLsb' 8 8 = b2 ∧ (b0 ++ b1 ++ b2 ++ b3).extractLsb' 0 8 = b3 := by
  refine ⟨?_, ?_, ?_, BitVec.extractLsb'_append_eq_right⟩
  · iterate 3 rw [BitVec.extractLsb'_append_eq_of_le (by decide)]
    exact BitVec.extractLsb'_eq_self
  · iterate 2 rw [BitVec.extractLsb'_append_eq_of_le (by decide)]
    exact BitVec.extractLsb'_append_eq_right
  · rw [BitVec.extractLsb'_append_eq_of_le (by decide)]
    exact BitVec.extractLsb'_append_eq_right

/-- Byte `k` of a word, the most significant first (R53, D7). -/
theorem Memory.read_of_readWord {m : Memory} {a w : Word} (h : Memory.readWord m a = some w) (k : Nat) (hk : k < 4) :
    Memory.read m (4 * a.toNat + k) = some (w.extractLsb' (24 - 8 * k) 8) := by
  obtain ⟨b0, b1, b2, b3, rfl, h0, h1, h2, h3⟩ := Memory.readWord_eq_some h
  obtain ⟨e0, e1, e2, e3⟩ := extract_append_bytes b0 b1 b2 b3
  interval_cases k
  · exact h0.trans (congrArg some e0.symm)
  · exact h1.trans (congrArg some e1.symm)
  · exact h2.trans (congrArg some e2.symm)
  · exact h3.trans (congrArg some e3.symm)

theorem wordOf_toNat (b : Word) : (wordOf b).toNat = b.toNat / 4 := by
  have := b.isLt
  rw [wordOf, BitVec.toNat_ofNat, Nat.mod_eq_of_lt (by omega)]

/-- Settles O21: byte address `b` is byte `b mod 4` of its word. -/
theorem fetchReadsWordsMostSignificantByteFirst : Obligations.FetchReadsWordsMostSignificantByteFirst := by
  intro m b w h
  have byte := Memory.read_of_readWord h (b.toNat % 4) (Nat.mod_lt _ (by decide))
  rwa [wordOf_toNat, Nat.div_add_mod] at byte

/-! ## The loads -/

/-- The state with register `j` written and `pc` moved on. -/
theorem wroteOnlyR_writeR_advance (s : State) (j : StackIdx) (v : Word) (len : Nat) :
    WroteOnlyR s ((s.writeR j v).advance len) j v s.carry len :=
  ⟨rfl, (s.readR_writeR · j v), rfl, rfl, rfl, ⟨fun _ => rfl, fun _ => rfl, rfl⟩, ⟨rfl, rfl, rfl, rfl, rfl, rfl, rfl⟩,
    fun _ => rfl, rfl⟩

/-- A load of length `len` that pushes the word read (R18, R51). -/
theorem State.load_pushes {s : State} {a v : Word} (len : Nat) (h : s.Holds a v) :
    ∃ t, (s.memRead a fun m => .next ((s.push m).advance len)) = .next t ∧ Pushed s t v len :=
  ⟨_, State.memRead_of_holds _ h, pushed_push_advance s v len⟩

/-- A load of length `len` that puts the word read in register `j`, `S` unmoved (R51). -/
theorem State.load_writes {s : State} {a v : Word} (j : StackIdx) (len : Nat) (h : s.Holds a v) :
    ∃ t, (s.memRead a fun m => .next ((s.writeR j m).advance len)) = .next t ∧ WroteOnlyR s t j v s.carry len :=
  ⟨_, State.memRead_of_holds _ h, wroteOnlyR_writeR_advance s j v len⟩

/-- LRI0 to LRI15 with the number of the local register that holds the pointer (R203). -/
def lriTable (a : Byte) : List (Instr × Nibble) :=
  [ (.lri0 a, 0), (.lri1 a, 1), (.lri2 a, 2), (.lri3 a, 3), (.lri4 a, 4), (.lri5 a, 5), (.lri6 a, 6),
    (.lri7 a, 7), (.lri8 a, 8), (.lri9 a, 9), (.lri10 a, 10), (.lri11 a, 11), (.lri12 a, 12),
    (.lri13 a, 13), (.lri14 a, 14), (.lri15 a, 15) ]

theorem exec_of_mem_lriTable {a : Byte} {i : Instr} {n : Nibble} (h : (i, n) ∈ lriTable a) (s : State) :
    exec i s = s.loadThroughLocal n a := by
  have rows : (lriTable a).map (fun row => exec row.1 s) = (lriTable a).map fun row => s.loadThroughLocal row.2 a := rfl
  exact List.map_inj_left.mp rows _ h

/-- Settles O42: RX is an operation on the stack; the others are a read, then a push or a write of one register. -/
theorem loadsComplete : Obligations.LoadsComplete := by
  intro s a b bl br v
  refine ⟨fun holds => State.stackAlu_of_yields (State.aluYields_rx holds), State.load_writes s.S 2, State.load_pushes 2,
    State.load_pushes 3, fun i n hi holds => ?_, State.load_writes (s.localIdx bl) 3, State.load_writes (s.localIdx bl) 3⟩
  rw [exec_of_mem_lriTable hi]
  exact State.load_pushes 2 holds

/-! ## The stores -/

/-- A store writes the four bytes of its word and adds the word to the stored set (R51, R62). -/
theorem storesWord_storeWord (s : State) (a v : Word) : StoresWord s (s.storeWord a v) a v := by
  refine ⟨?_, fun c outside => ?_, fun b => mem_insertRising s.stored a.toNat b⟩
  · rw [State.storeWord_mem, Memory.readWord_writeWord, if_pos rfl]
  · rw [State.storeWord_mem, Memory.read_writeWord, if_neg (by omega), if_neg (by omega), if_neg (by omega),
      if_neg (by omega)]

/-- A write to an admitted word followed by a move of `S` and `pc` (R51). -/
theorem State.store_completes {s : State} {a : Word} (v : Word) (newS : StackIdx) (newPc : Word)
    (h : s.admits a = true) :
    ∃ t, (s.memWrite a v fun u => .next { u with S := newS, pc := newPc }) = .next t ∧ Stored s t a v newS newPc :=
  ⟨_, State.memWrite_of_admits v _ h, rfl, rfl, rfl, fun _ => rfl, rfl, ⟨fun _ => rfl, fun _ => rfl, rfl⟩,
    ⟨rfl, rfl, rfl, rfl, rfl, rfl, rfl⟩, storesWord_storeWord s a v⟩

/-- SRI0 to SRI15 with the number of the local register that holds the pointer (R204). -/
def sriTable (a : Byte) : List (Instr × Nibble) :=
  [ (.sri0 a, 0), (.sri1 a, 1), (.sri2 a, 2), (.sri3 a, 3), (.sri4 a, 4), (.sri5 a, 5), (.sri6 a, 6),
    (.sri7 a, 7), (.sri8 a, 8), (.sri9 a, 9), (.sri10 a, 10), (.sri11 a, 11), (.sri12 a, 12),
    (.sri13 a, 13), (.sri14 a, 14), (.sri15 a, 15) ]

theorem exec_of_mem_sriTable {a : Byte} {i : Instr} {n : Nibble} (h : (i, n) ∈ sriTable a) (s : State) :
    exec i s = s.storeThroughLocal n a := by
  have rows : (sriTable a).map (fun row => exec row.1 s) = (sriTable a).map fun row => s.storeThroughLocal row.2 a := rfl
  exact List.map_inj_left.mp rows _ h

/-- Settles O43: each is a write to memory, then a move of `S` and `pc`. -/
theorem storesComplete : Obligations.StoresComplete := by
  intro s a bl br
  refine ⟨State.store_completes (s.readR (s.S - 1)) (s.wrap (s.S - 2)) (s.pc + 2),
    State.store_completes (s.readR s.S) (s.wrap (s.S - 2)) (s.pc + 2),
    State.store_completes (s.readR s.S) (s.wrap (s.S - 1)) (s.pc + 2), fun i n hi admitted => ?_,
    State.store_completes (s.readR (s.localIdx bl)) s.S (s.pc + 3),
    State.store_completes (s.readR (s.localIdx bl)) s.S (s.pc + 3)⟩
  rw [exec_of_mem_sriTable hi]
  exact State.store_completes (s.readR s.S) (s.wrap (s.S - 1)) (s.pc + 2) admitted

end Sys2Proof.Machine

/-! SUPPORT. The processor bus (R64, R165), and the statements O46 and O47. -/
namespace Sys2Proof.Machine

/-- The state after a bus read whose answer goes to register `j`, with `S` and `pc` moved. -/
def State.busReadInto (s : State) (addr cmd : Word) (j newS : StackIdx) : State :=
  { (s.afterBusRead addr cmd).writeR j (s.busAnswer addr cmd) with S := newS, pc := s.pc + 3 }

/-- A read command makes each of the three the bus read into the register it names (R166 to R168). -/
theorem exec_bus_read {s : State} {a b : Byte} {i : Instr} {addr : Word} {newS j : StackIdx}
    (hr : s.cmdReads b = true) (hw : s.cmdWrites b = false)
    (hi : (i, addr, newS, j) ∈ ([
      (.iod a b, byteZ a, s.wrap (s.S + 1), s.S + 1),
      (.ion a b, byteZ a, s.S, s.S + 1),
      (.ioda a b, byteZ a + s.readR s.S, s.S, s.S) ] : List (Instr × Word × StackIdx × StackIdx))) :
    exec i s = .next (s.busReadInto addr (byteZ b) j newS) := by
  simp only [List.mem_cons, Prod.mk.injEq, List.not_mem_nil, or_false] at hi
  rcases hi with ⟨rfl, rfl, rfl, rfl⟩ | ⟨rfl, rfl, rfl, rfl⟩ | ⟨rfl, rfl, rfl, rfl⟩ <;>
    exact State.busCommand_read _ _ hr hw

/-- Settles O46: the draw and the record are the bus read's own; of the registers only `j` is written. -/
theorem busReadsComplete : Obligations.BusReadsComplete := by
  intro s a b i addr newS j hr hw hi
  exact ⟨_, _, exec_bus_read hr hw hi, rfl, rfl, rfl, (s.readR_writeR · j _), rfl, rfl, rfl, rfl,
    ⟨fun _ => rfl, fun _ => rfl, rfl⟩, ⟨fun _ => rfl, rfl⟩, rfl, rfl, rfl, rfl, rfl⟩

/-- Settles O47: each is the write command's arm, the record and then a pop or none. -/
theorem busWritesComplete : Obligations.BusWritesComplete := by
  intro s a b i addr data newS hr hw hi
  simp only [List.mem_cons, Prod.mk.injEq, List.not_mem_nil, or_false] at hi
  rcases hi with ⟨rfl, rfl, rfl, rfl⟩ | ⟨rfl, rfl, rfl, rfl⟩ | ⟨rfl, rfl, rfl, rfl⟩ <;>
    exact State.busCommand_write _ _ hr hw

end Sys2Proof.Machine

/-! SUPPORT. Who writes memory (R57): the statement O15. -/
namespace Sys2Proof.Machine

theorem keepsMemory_of_eq {s t : State} (hm : t.mem = s.mem) (hs : t.stored = s.stored) : KeepsMemory s t :=
  ⟨fun _ => by rw [hm], hs⟩

namespace KeepsMemory
variable {s t : State}

theorem ofNext {u : State} (h : Host.Outcome.next u = (.next t : Result)) (hm : u.mem = s.mem)
    (hs : u.stored = s.stored) : KeepsMemory s t :=
  Host.Outcome.next.inj h ▸ keepsMemory_of_eq hm hs

theorem ofMemRead {a : Word} {k : Word → Result} (h : s.memRead a k = .next t)
    (hk : ∀ m, k m = .next t → KeepsMemory s t) : KeepsMemory s t := by
  obtain ⟨m, _, hm⟩ := State.memRead_next h
  exact hk m hm

theorem ofBusCommand {op cmd : Byte} {onRead onWrite : Result} (h : s.busCommand op cmd onRead onWrite = .next t)
    (hr : onRead = .next t → KeepsMemory s t) (hw : onWrite = .next t → KeepsMemory s t) : KeepsMemory s t := by
  rcases State.busCommand_next h with ⟨_, _, h⟩ | ⟨_, _, h⟩
  · exact hr h
  · exact hw h

theorem ofStackAlu {op : AluOp} {a b : Word} (h : s.stackAlu op a b = .next t) : KeepsMemory s t := by
  obtain ⟨r, c, rfl⟩ := State.stackAlu_next h
  exact keepsMemory_of_eq rfl rfl

theorem ofLiteralAlu {op : AluOp} {v : Word} {len : Nat} (h : s.literalAlu op v len = .next t) : KeepsMemory s t := by
  obtain ⟨r, c, rfl⟩ := State.literalAlu_next h
  exact keepsMemory_of_eq rfl rfl

theorem ofRegAlu {op : AluOp} {ra rb : Src} {rc : Dst} {len : Nat} (h : s.regAlu op ra rb rc len = .next t) :
    KeepsMemory s t := by
  obtain ⟨r, c, rfl⟩ := State.regAlu_next h
  exact keepsMemory_of_eq (State.writeDst_mem _ rc _ r) (State.writeDst_stored _ rc _ r)

theorem ofFormRR {opcode : Byte} {op : AluOp} {ra rb : Src} {rc : Dst} (h : s.formRR opcode op ra rb rc = .next t) :
    KeepsMemory s t :=
  ofRegAlu (State.formRR_next h).2

theorem ofFormQR {op : AluOp} {sel : QrSel} {rb : Src} (h : s.formQR op sel rb = .next t) : KeepsMemory s t :=
  ofRegAlu h

theorem ofCall {u : State} {target : Word} {len : Nat} (h : u.call target len = .next t) (hm : u.mem = s.mem)
    (hs : u.stored = s.stored) : KeepsMemory s t := by
  obtain ⟨_, rfl⟩ := State.call_next h
  exact keepsMemory_of_eq hm hs

theorem ofRet {u : State} (h : u.ret = .next t) (hm : u.mem = s.mem) (hs : u.stored = s.stored) : KeepsMemory s t := by
  obtain ⟨_, _, _, rfl⟩ := State.ret_next h
  exact keepsMemory_of_eq hm hs

theorem ofTakeXop {op : Byte} {len : Nat} {operands : List Byte} (h : s.takeXop op len operands = .next t) :
    KeepsMemory s t := by
  obtain ⟨_, _, _, rfl⟩ := State.takeXop_next h
  exact keepsMemory_of_eq rfl rfl

theorem ofBranch {u : State} {taken : Bool} {beta : Byte} (h : Host.Outcome.next (u.branch taken beta) = (.next t : Result))
    (hm : u.mem = s.mem) (hs : u.stored = s.stored) : KeepsMemory s t :=
  ofNext h ((u.branch_mem taken beta).trans hm) ((u.branch_stored taken beta).trans hs)

theorem ofLip {alpha : Byte} (h : execLip alpha s = .next t) : KeepsMemory s t :=
  ofNext h (s.afterPregRead_mem alpha) (s.afterPregRead_stored alpha)

theorem ofSip {alpha : Byte} (h : execSip alpha s = .next t) : KeepsMemory s t := by
  unfold execSip at h
  split at h
  · rcases State.pregWrite_next h with ⟨_, h⟩ | ⟨_, h⟩ | ⟨x, _, h⟩
    · exact ofNext h rfl rfl
    · exact ofNext h rfl rfl
    · exact ofNext h (State.writeTarget_mem _ x _) (State.writeTarget_stored _ x _)
  · exact absurd h (s.raise_ne_next t _)

theorem ofBc (h : execBc s = .next t) : KeepsMemory s t := by
  obtain ⟨_, _, hk, _⟩ := State.alu_next h
  exact ofNext hk rfl rfl

theorem ofSfci (h : execSfci s = .next t) : KeepsMemory s t := by
  obtain ⟨v, _, h⟩ := State.memRead_next h
  rw [sfci_state] at h
  exact ofCall h rfl rfl

theorem ofKfc (h : execKfc s = .next t) : KeepsMemory s t := by
  obtain ⟨_, rfl⟩ := State.enterKernel_next h
  exact keepsMemory_of_eq rfl rfl

end KeepsMemory

open KeepsMemory in
/-- Settles O15: the writers apart, no operation an instruction is made of touches memory or the stored set. -/
theorem memoryIsWrittenOnlyAsListed : Obligations.MemoryIsWrittenOnlyAsListed := by
  intro i s t h unlisted
  show KeepsMemory s t
  unfold exec at h
  cases i
  case cst | wb | wsb | psb | wai | wri | sri0 | sri1 | sri2 | sri3 | sri4 | sri5 | sri6 | sri7 | sri8 | sri9 | sri10 |
      sri11 | sri12 | sri13 | sri14 | sri15 => cases unlisted
  case xop20 | xop21 | xop22 | xop23 | xop24 | xop25 | xop26 | xop27 | xop28 | xop29 | xop2A | xop2B | xop2C |
      xop2D | xop2E | xop2F | xop30 | xop33 | xop38 | xop39 | xop3A | xop3B | xop3C | xop3D | xop3E | xop3F |
      xop8D | xop8F | xop93 | xop9C | xop9D | xop9E | xopF4 | xopF5 | xopF6 | xopF7 | xopFC | xopFD | xopFE |
      xopFF | xop00 | xop01 | xop02 | xop03 | xop04 | xop05 | xop06 | xop07 | xop08 | xop09 | xop0A | xop0B |
      xop0C | xop0D | xop0E | xop0F | xop1C | xop1D | xop1E | xop1F | xop4A | xop50 | xop51 | xop52 | xop53 |
      xop55 | xop58 | xop59 | xop5A | xop5B | xop5C | xop5D | xop5E | xop5F => exact ofTakeXop h
  case reservedC9 | reservedCB | reservedDF | reservedE0 | reservedE4 | reservedE8 | reservedEC => cases h
  case liqb | lib | lidb | lc0 | lc1 | lc2 | lc3 | lc4 | lc5 | lc6 | lc7 | lc8 | lc9 | lc10 | lc11 | dup | lr0 |
      lr1 | lr2 | lr3 | lr4 | lr5 | lr6 | lr7 | lr8 | lr9 | lr10 | lr11 | lr12 | lr13 | lr14 | lr15 | sr0 | sr1 |
      sr2 | sr3 | sr4 | sr5 | sr6 | sr7 | sr8 | sr9 | sr10 | sr11 | sr12 | sr13 | sr14 | sr15 | j1 | j2 | j3 | j5 |
      jb | jdb | jqb | jsd | jsr | al | als | as | asl | dis | exdis | fsdb | shl | shr | shdl | shdr =>
    exact ofNext h rfl rfl
  case lip => exact ofLip h
  case sip => exact ofSip h
  case dfc | lfc | sfc => exact ofCall h rfl rfl
  case sfci => exact ofSfci h
  case kfc => exact ofKfc h
  case ret | retn => exact ofRet h rfl rfl
  case rb | rsb | lgf | rai | rri | lri0 | lri1 | lri2 | lri3 | lri4 | lri5 | lri6 | lri7 | lri8 | lri9 | lri10 | lri11 |
      lri12 | lri13 | lri14 | lri15 => exact ofMemRead h fun _ h => ofNext h rfl rfl
  case ioda | iod | ion => exact ofBusCommand h (ofNext · rfl rfl) (ofNext · rfl rfl)
  case rjeb | rjlb | rjleb | rjneb | rjgeb | rjgb | rjnebj | rjgebj | rjgbj | rjebj | rjlbj | rjlebj | jebb | jnebb |
      jebbj | jnebbj => exact ofBranch h rfl rfl
  case bc => exact ofBc h
  case or | and | rx | add | sub | ladd | lsub => exact ofStackAlu h
  case addqb | subqb | addb | subb | adddb | subdb => exact ofLiteralAlu h
  case qor | qand | qrx | qbc | qadd | qsub | qladd | qlsub => exact ofFormQR h
  case ror | rand | rrx | rbc | radd | rsub | rladd | rlsub | rxor | rfu | rvadd | rvsub | ruadd | rusub =>
    exact ofFormRR h

end Sys2Proof.Machine

/-! SUPPORT. The decoder looks at no byte beyond an instruction's length (R71). -/
namespace Sys2Proof

theorem lengthOf_eq : ∀ op : Byte, lengthOf op =
    if op.toNat < 0x20 then 1 else if op.toNat < 0x40 then 5 else if op.toNat < 0x80 then 1
    else if op.toNat < 0xC0 then 2 else 3 := by decide

/-- A cell with every operand byte beyond an instruction of length `len` read as 0. -/
def Cell.upTo (len : Nat) (cell : Cell) : Cell := fun c a b g d =>
  cell c (if 1 < len then a else 0) (if 2 < len then b else 0) (if 3 < len then g else 0) (if 4 < len then d else 0)

/-- The `count` cells of the map from opcode `first` on look at no byte beyond length `len`. -/
def StretchUpTo (first count len : Nat) : Prop :=
  ((opcodeMap.drop first).take count).map (Cell.upTo len) = (opcodeMap.drop first).take count

theorem stretchUpTo_00_1F : StretchUpTo 0x00 0x20 1 := rfl

theorem stretchUpTo_20_3F : StretchUpTo 0x20 0x20 5 := rfl

theorem stretchUpTo_40_7F : StretchUpTo 0x40 0x40 1 := rfl

theorem stretchUpTo_80_BF : StretchUpTo 0x80 0x40 2 := rfl

theorem stretchUpTo_C0_DF : StretchUpTo 0xC0 0x20 3 := rfl

theorem stretchUpTo_E0_FF : StretchUpTo 0xE0 0x20 3 := rfl

/-- An opcode in a stretch of the map whose cells look at no byte beyond length `len`. -/
theorem cellOf_upTo_of_stretch {first count len : Nat} (h : StretchUpTo first count len) {op : Byte}
    (lo : first ≤ op.toNat) (hi : op.toNat < first + count) : (cellOf op).upTo len = cellOf op := by
  have cell : opcodeMap[op.toNat]?.map (Cell.upTo len) = opcodeMap[op.toNat]? := by
    have entry := congrArg (·[op.toNat - first]?) h
    simpa only [List.getElem?_map, List.getElem?_take, List.getElem?_drop, Nat.add_sub_cancel' lo,
      if_pos (show op.toNat - first < count by omega)] using entry
  rw [cellOf, List.getD_eq_getElem?_getD]
  cases hc : opcodeMap[op.toNat]? with
  | none => rfl
  | some f =>
    rw [hc] at cell
    exact Option.some.inj cell

/-- Every cell of the map looks at no byte beyond its opcode's length (R71, R85). -/
theorem cellOf_upTo_lengthOf (op : Byte) : (cellOf op).upTo (lengthOf op) = cellOf op := by
  have top : op.toNat < 0x100 := op.isLt
  rw [lengthOf_eq]
  split_ifs
  · exact cellOf_upTo_of_stretch stretchUpTo_00_1F (by omega) (by omega)
  · exact cellOf_upTo_of_stretch stretchUpTo_20_3F (by omega) (by omega)
  · exact cellOf_upTo_of_stretch stretchUpTo_40_7F (by omega) (by omega)
  · exact cellOf_upTo_of_stretch stretchUpTo_80_BF (by omega) (by omega)
  · by_cases half : op.toNat < 0xE0
    · exact cellOf_upTo_of_stretch stretchUpTo_C0_DF (by omega) (by omega)
    · exact cellOf_upTo_of_stretch stretchUpTo_E0_FF (by omega) (by omega)

theorem lengthOf_pos (op : Byte) : 0 < lengthOf op := by
  rw [lengthOf_eq]
  split_ifs <;> decide

theorem take_lengthOf (op : Byte) (rest : List Byte) :
    (op :: rest).take (lengthOf op) = op :: rest.take (lengthOf op - 1) :=
  List.take_cons (lengthOf_pos op)

/-- With the bytes of the opcode's length, bytes beyond them change no answer (R71). -/
theorem decode_take {c : Specifiers} {op : Byte} {rest : List Byte} (enough : lengthOf op ≤ rest.length + 1) :
    decode c ((op :: rest).take (lengthOf op)) = decode c (op :: rest) := by
  rw [take_lengthOf]
  have operand (k : Nat) : (rest.take (lengthOf op - 1)).getD k 0 = if k + 1 < lengthOf op then rest.getD k 0 else 0 := by
    simp only [List.getD_eq_getElem?_getD, List.getElem?_take, ← Nat.lt_sub_iff_add_lt]
    split <;> rfl
  have cell : cellOf op c ((rest.take (lengthOf op - 1)).getD 0 0) ((rest.take (lengthOf op - 1)).getD 1 0)
      ((rest.take (lengthOf op - 1)).getD 2 0) ((rest.take (lengthOf op - 1)).getD 3 0) =
      cellOf op c (rest.getD 0 0) (rest.getD 1 0) (rest.getD 2 0) (rest.getD 3 0) := by
    rw [operand, operand, operand, operand, ← cellOf_upTo_lengthOf op]
    simp only [Cell.upTo]
    split_ifs <;> rfl
  simp only [decode, cell, List.length_take]
  rw [if_neg (by omega), if_neg (by omega)]

end Sys2Proof

/-! SUPPORT. Fetch and step (R52, R53, R58, R326): what the fetch of one byte and of several answers, what a step runs. The
statements O7, O9 and O45. -/
namespace Sys2Proof.Machine

/-! ## The fetch -/

theorem State.fetchByte_outside {s : State} {b : Word} (k : Byte → Result) (h : s.admits (wordOf b) = false) :
    s.fetchByte b k = .refused (.outsideLaunch (wordOf b)) := by
  simp [State.fetchByte, h]

theorem State.fetchByte_stored {s : State} {b : Word} (k : Byte → Result) (admitted : s.admits (wordOf b) = true)
    (stored : b.toNat / 4 ∈ s.stored) : s.fetchByte b k = .refused (.storedCode b) := by
  simp [State.fetchByte, admitted, stored]

theorem State.fetchByte_unwritten {s : State} {b : Word} (k : Byte → Result) (admitted : s.admits (wordOf b) = true)
    (fresh : b.toNat / 4 ∉ s.stored) (unwritten : Memory.read s.mem b.toNat = none) :
    s.fetchByte b k = .fault (.unwrittenFetch b) := by
  simp [State.fetchByte, admitted, fresh, unwritten]

/-- The bytes `vs` can be fetched from `b` on (R52). -/
def State.FetchableFrom (s : State) (b : Word) (vs : List Byte) : Prop :=
  ∀ (k : Nat) (v : Byte), vs[k]? = some v → s.Fetchable (b + BitVec.ofNat 32 k) v

theorem State.FetchableFrom.head {s : State} {b : Word} {v : Byte} {vs : List Byte}
    (h : s.FetchableFrom b (v :: vs)) : s.Fetchable b v := by
  simpa using h 0 v rfl

theorem succ_offset (b : Word) (k : Nat) : b + 1 + BitVec.ofNat 32 k = b + BitVec.ofNat 32 (k + 1) := by
  rw [Nat.add_comm k 1, BitVec.ofNat_add, BitVec.add_assoc]
  rfl

theorem State.FetchableFrom.tail {s : State} {b : Word} {v : Byte} {vs : List Byte}
    (h : s.FetchableFrom b (v :: vs)) : s.FetchableFrom (b + 1) vs := by
  intro k u hu
  rw [succ_offset]
  exact h (k + 1) u hu

/-- A fetch gets past the bytes that can be fetched to those after them. -/
theorem State.fetchBytes_append {s : State} {b : Word} {vs : List Byte} (n : Nat) (k : List Byte → Result)
    (h : s.FetchableFrom b vs) :
    s.fetchBytes (vs.length + n) b k =
      s.fetchBytes n (b + BitVec.ofNat 32 vs.length) fun ws => k (vs ++ ws) := by
  induction vs generalizing b k with
  | nil => simp
  | cons v vs ih =>
    calc
      s.fetchBytes ((v :: vs).length + n) b k
        = s.fetchBytes (vs.length + n + 1) b k := by rw [List.length_cons, Nat.add_right_comm]
      _ = s.fetchBytes (vs.length + n) (b + 1) fun ws => k (v :: ws) := State.fetchByte_of_fetchable _ h.head
      _ = s.fetchBytes n (b + BitVec.ofNat 32 (v :: vs).length) fun ws => k (v :: vs ++ ws) := by
        rw [ih _ h.tail, succ_offset]
        rfl

/-! ## The step -/

theorem step_of_running {s : State} (h : s.ended = false) : step s = s.fetchInstr s.runBytes := by
  simp [step, h]

/-- A step whose bytes can all be fetched runs them (R326). -/
theorem step_of_fetchable {s : State} {op : Byte} {rest : List Byte} (running : s.ended = false)
    (length : rest.length + 1 = lengthOf op) (h : s.FetchableFrom s.pc (op :: rest)) :
    step s = s.runBytes (op :: rest) := by
  have operands : lengthOf op - 1 = rest.length + 0 := by omega
  rw [step_of_running running, State.fetchInstr, State.fetchByte_of_fetchable _ h.head, operands,
    State.fetchBytes_append 0 _ h.tail]
  simp [State.fetchBytes]

/-- Settles O7: the bytes fetched are the ones that decode. -/
theorem stepRunsTheDecodedInstruction : Obligations.StepRunsTheDecodedInstruction := by
  refine ⟨fun s exit => by simp [step, State.ended, exit], fun s op rest running length fetchable => ?_⟩
  rw [step_of_fetchable running length fetchable, State.runBytes]
  exact ⟨fun i h => by rw [h], fun h => by rw [h]⟩

/-- A step that reaches a byte answers what the fetch of that byte makes of it (R52, R71). -/
theorem step_of_fetchReaches {s : State} {before : List Byte} (h : s.FetchReaches before) :
    ∃ k, step s = s.fetchByte (s.pc + BitVec.ofNat 32 before.length) k := by
  obtain ⟨running, fetchable, short⟩ := h
  rw [step_of_running running, State.fetchInstr]
  cases before with
  | nil => exact ⟨_, by rw [List.length_nil, BitVec.ofNat_eq_ofNat, BitVec.add_zero]⟩
  | cons op rest =>
    replace fetchable : s.FetchableFrom s.pc (op :: rest) := fetchable
    obtain ⟨n, operands⟩ : ∃ n, lengthOf op - 1 = rest.length + (n + 1) :=
      Nat.exists_eq_add_of_lt (by have := short op rfl; simp at this; omega)
    rw [State.fetchByte_of_fetchable _ fetchable.head, operands, State.fetchBytes_append _ _ fetchable.tail, succ_offset]
    exact ⟨_, rfl⟩

/-! ## The stored set -/

/-- No edit takes a word out of the stored set (R62). -/
theorem State.Edits.keeps_stored {s u : State} (h : s.Edits u) {a : Nat} (ha : a ∈ s.stored) : a ∈ u.stored := by
  induction h with
  | refl => exact ha
  | @storeWord u b v _ ih => exact (mem_insertRising u.stored b.toNat a).mpr (.inr ih)
  | afterPregRead i _ ih => simpa using ih
  | writeR _ _ _ ih | setS _ _ ih | setL _ _ ih | writeAux _ _ _ ih | writeConst _ _ _ ih | setCarry _ _ ih
  | setField _ _ ih | setPReg _ _ _ ih | setKernel _ _ ih | setTrapsEnabled _ _ ih | advance _ _ ih | jump _ _ ih
  | afterBusRead _ _ _ ih | afterBusWrite _ _ _ _ ih => exact ih

theorem Effect.keeps_stored {i : Instr} {s t : State} (h : Effect i s t) {a : Nat} (ha : a ∈ s.stored) :
    a ∈ t.stored := by
  cases h with
  | edited hu => exact hu.keeps_stored ha
  | called _ _ hu _ _ => exact (hu.keeps_stored ha :)
  | entered _ => exact ha
  | returned _ _ _ hu _ => exact (hu.keeps_stored ha :)

/-- Settles O9: no effect of an instruction takes a stored word out, and the fetch of a byte of one is refused. -/
theorem storedWordsAreNeverFetched : Obligations.StoredWordsAreNeverFetched := by
  refine ⟨fun s t h a ha => ?_, fun s before b reaches hb admitted stored => ?_⟩
  · rcases step_next h with ⟨_, rfl⟩ | ⟨_, i, hi⟩
    · exact ha
    · exact (exec_effect hi).keeps_stored ha
  · obtain ⟨k, hk⟩ := step_of_fetchReaches reaches
    rw [hk, ← hb]
    exact State.fetchByte_stored k admitted stored

/-! ## Accesses that stop -/

theorem State.memRead_outside {s : State} {a : Word} (k : Word → Result) (h : s.admits a = false) :
    s.memRead a k = .refused (.outsideLaunch a) := by
  simp [State.memRead, h]

theorem State.memRead_unwritten {s : State} {a : Word} (k : Word → Result) (admitted : s.admits a = true)
    (unwritten : Memory.readWord s.mem a = none) : s.memRead a k = .fault (.unwrittenWord a) := by
  simp [State.memRead, admitted, unwritten]

theorem State.memWrite_outside {s : State} {a : Word} (v : Word) (k : State → Result) (h : s.admits a = false) :
    s.memWrite a v k = .refused (.outsideLaunch a) := by
  simp [State.memWrite, h]

theorem State.storeThroughLocal_outside {s : State} {n : Nibble} {alpha : Byte}
    (h : s.admits (s.readR (s.localIdx n) + byteZ alpha) = false) :
    s.storeThroughLocal n alpha = .refused (.outsideLaunch (s.readR (s.localIdx n) + byteZ alpha)) :=
  State.memWrite_outside _ _ h

/-- Settles O45: each instruction of R57 begins with the read or the write of the word listed for it; the fetch stops at
the byte it reaches. -/
theorem inadmissibleAccessesStop : Obligations.InadmissibleAccessesStop := by
  refine ⟨fun s a b bl br ra rb rc sel i addr separate hi => ?_, fun s a bl br i addr hi outside => ?_,
    fun s before b reaches hb => ?_⟩
  · obtain ⟨k, reads⟩ : ∃ k, exec i s = s.memRead addr k := by
      simp only [List.mem_cons, Prod.mk.injEq, List.not_mem_nil, or_false] at hi
      rcases hi with ⟨rfl, rfl⟩ | ⟨rfl, rfl⟩ | ⟨rfl, rfl⟩ | ⟨rfl, rfl⟩ | ⟨rfl, rfl⟩ | ⟨rfl, rfl⟩ | ⟨rfl, rfl⟩ |
        ⟨rfl, rfl⟩ | ⟨rfl, rfl⟩ | ⟨rfl, rfl⟩ | ⟨rfl, rfl⟩ | ⟨rfl, rfl⟩ | ⟨rfl, rfl⟩ | ⟨rfl, rfl⟩ | ⟨rfl, rfl⟩ |
        ⟨rfl, rfl⟩ | ⟨rfl, rfl⟩ | ⟨rfl, rfl⟩ | ⟨rfl, rfl⟩ | ⟨rfl, rfl⟩ | ⟨rfl, rfl⟩ | ⟨rfl, rfl⟩ | ⟨rfl, rfl⟩ |
        ⟨rfl, rfl⟩ | ⟨rfl, rfl⟩ | ⟨rfl, rfl⟩
      case inr.inr.inl => exact ⟨_, State.formRR_of_separate separate⟩
      all_goals exact ⟨_, rfl⟩
    rw [reads]
    exact ⟨State.memRead_outside k, State.memRead_unwritten k⟩
  · unfold exec
    simp only [List.mem_cons, Prod.mk.injEq, List.not_mem_nil, or_false] at hi
    rcases hi with ⟨rfl, rfl⟩ | ⟨rfl, rfl⟩ | ⟨rfl, rfl⟩ | ⟨rfl, rfl⟩ | ⟨rfl, rfl⟩ | ⟨rfl, rfl⟩ | ⟨rfl, rfl⟩ |
      ⟨rfl, rfl⟩ | ⟨rfl, rfl⟩ | ⟨rfl, rfl⟩ | ⟨rfl, rfl⟩ | ⟨rfl, rfl⟩ | ⟨rfl, rfl⟩ | ⟨rfl, rfl⟩ | ⟨rfl, rfl⟩ |
      ⟨rfl, rfl⟩ | ⟨rfl, rfl⟩ | ⟨rfl, rfl⟩ | ⟨rfl, rfl⟩ | ⟨rfl, rfl⟩ | ⟨rfl, rfl⟩
    iterate 5 exact State.memWrite_outside _ _ outside
    all_goals exact (State.storeThroughLocal_outside outside :)
  · obtain ⟨k, hk⟩ := step_of_fetchReaches reaches
    rw [hk, ← hb]
    exact ⟨State.fetchByte_outside k, State.fetchByte_unwritten k⟩

end Sys2Proof.Machine

/-! SUPPORT. Instruction bytes placed at `pc` as part of the launch's image (log 9): each of them can be fetched. The
statement O8. -/
namespace Sys2Proof.Machine

/-! ## Bytes placed in memory -/

/-- Two byte addresses at different offsets below 2^32 from one address differ. -/
theorem offset_ne {b : Word} {j k : Nat} (hj : j < 2 ^ 32) (hk : k < 2 ^ 32) (h : j ≠ k) :
    (b + BitVec.ofNat 32 j).toNat ≠ (b + BitVec.ofNat 32 k).toNat := by
  have := b.isLt
  simp only [BitVec.toNat_add, BitVec.toNat_ofNat]
  omega

/-- A byte that none is placed on stays. -/
theorem read_placeBytes_other {m : Memory} {b : Word} {bytes : List Byte} {c : Nat}
    (h : ∀ k < bytes.length, c ≠ (b + BitVec.ofNat 32 k).toNat) :
    Memory.read (placeBytes m b bytes) c = Memory.read m c := by
  induction bytes generalizing m b with
  | nil => rfl
  | cons v vs ih =>
    have first : c ≠ b.toNat := by simpa using h 0 (by simp)
    have later (k : Nat) (hk : k < vs.length) : c ≠ (b + 1 + BitVec.ofNat 32 k).toNat := by
      rw [succ_offset]
      exact h (k + 1) (by simpa using hk)
    exact (ih later).trans (Memory.read_write_other m b.toNat c v first)

/-- Bytes placed from `b` on are read there, as long as they do not come round to `b` again. -/
theorem read_placeBytes {m : Memory} {b : Word} {bytes : List Byte} (short : bytes.length ≤ 2 ^ 32) {k : Nat} {v : Byte}
    (h : bytes[k]? = some v) : Memory.read (placeBytes m b bytes) (b + BitVec.ofNat 32 k).toNat = some v := by
  induction bytes generalizing m b k with
  | nil => cases h
  | cons u vs ih =>
    rw [List.length_cons] at short
    cases k with
    | zero =>
      have apart (j : Nat) (hj : j < vs.length) : b.toNat ≠ (b + 1 + BitVec.ofNat 32 j).toNat := by
        rw [succ_offset]
        simpa using offset_ne (b := b) (j := 0) (k := j + 1) (by decide) (by omega) (by omega)
      obtain rfl : u = v := Option.some.inj h
      calc
        Memory.read (placeBytes m b (u :: vs)) (b + BitVec.ofNat 32 0).toNat
          = Memory.read (placeBytes (Memory.write m b.toNat u) (b + 1) vs) b.toNat := by simp [placeBytes]
        _ = Memory.read (Memory.write m b.toNat u) b.toNat := read_placeBytes_other apart
        _ = some u := Memory.read_write_same m b.toNat u
    | succ k =>
      rw [← succ_offset]
      exact ih (by omega) h

/-! ## Words admitted -/

/-- The words some range of a launch's list covers (R54). -/
def covered (ranges : List WordRange) (a : Word) : Bool :=
  ranges.any fun r => decide (r.first.toNat ≤ a.toNat) && decide (a.toNat ≤ r.last.toNat)

theorem State.admits_eq (s : State) (a : Word) : s.admits a = covered s.params.admitted a := rfl

theorem covered_admitWord_self (ranges : List WordRange) (a : Word) : covered (admitWord ranges a) a = true := by
  unfold admitWord
  split
  · assumption
  · simp [covered]

theorem covered_admitWord {ranges : List WordRange} {b : Word} (a : Word) (h : covered ranges b = true) :
    covered (admitWord ranges a) b = true := by
  unfold admitWord
  split
  · exact h
  · rw [covered, List.any_cons, Bool.or_eq_true]
    exact .inr h

/-! ## The state with its code placed -/

/-- Five bytes lie in the words of the first and the last (R53). -/
theorem wordOf_offset (b : Word) {k : Nat} (hk : k < 5) :
    wordOf (b + BitVec.ofNat 32 k) = wordOf b ∨ wordOf (b + BitVec.ofNat 32 k) = wordOf (b + 4) := by
  have := b.isLt
  have four : (4 : Word).toNat = 4 := rfl
  simp only [← BitVec.toNat_inj, wordOf_toNat, BitVec.toNat_add, BitVec.toNat_ofNat, four]
  omega

theorem State.placeCode_admits (s : State) (bytes : List Byte) {a : Word}
    (h : a = wordOf s.pc ∨ a = wordOf (s.pc + 4)) : (s.placeCode bytes).admits a = true := by
  rcases h with rfl | rfl
  · exact covered_admitWord _ (covered_admitWord_self _ _)
  · exact covered_admitWord_self _ _

theorem State.placeCode_fresh (s : State) (bytes : List Byte) {a : Word}
    (h : a = wordOf s.pc ∨ a = wordOf (s.pc + 4)) : a.toNat ∉ (s.placeCode bytes).stored := by
  rcases h with rfl | rfl <;> simp [State.placeCode]

theorem State.placeCode_ended (s : State) (bytes : List Byte) : (s.placeCode bytes).ended = false := by
  simp only [State.placeCode, State.ended]
  split_ifs with exit
  · rfl
  · simpa using exit

/-- Placed bytes can be fetched from `pc` on. -/
theorem State.placeCode_fetchable (s : State) {bytes : List Byte} (short : bytes.length ≤ 5) :
    (s.placeCode bytes).FetchableFrom s.pc bytes := by
  intro k v h
  obtain ⟨inRange, _⟩ := List.getElem?_eq_some_iff.mp h
  have word := wordOf_offset s.pc (show k < 5 by omega)
  refine ⟨s.placeCode_admits bytes word, ?_, read_placeBytes (by omega) h⟩
  rw [← wordOf_toNat]
  exact s.placeCode_fresh bytes word

theorem State.FetchableFrom.take {s : State} {b : Word} {vs : List Byte} (h : s.FetchableFrom b vs) (n : Nat) :
    s.FetchableFrom b (vs.take n) := by
  intro k v hv
  rw [List.getElem?_take] at hv
  split at hv
  · exact h k v hv
  · cases hv

theorem decode_of_decodeTableWord {nbits w : Nat} {i : Instr} (h : decodeTableWord nbits w = some i) :
    decode Specifiers.allGk7 (bytesOfTableWord nbits w) = .instr i := by
  unfold decodeTableWord at h
  split at h
  · rwa [← Option.some.inj h]
  · cases h
  · cases h

/-- Placed bytes that decode to an instruction are what the next step runs (R326). -/
theorem step_placeCode {s : State} {bytes : List Byte} {i : Instr} (short : bytes.length ≤ 5)
    (h : decode Specifiers.allGk7 bytes = .instr i) : step (s.placeCode bytes) = exec i (s.placeCode bytes) := by
  obtain ⟨op, rest, rfl, enough, _⟩ := decode_instr h
  have fetchable := (s.placeCode_fetchable short).take (lengthOf op)
  rw [take_lengthOf] at fetchable
  have length : (rest.take (lengthOf op - 1)).length + 1 = lengthOf op := by
    have := lengthOf_pos op
    rw [List.length_take]
    omega
  rw [step_of_fetchable (s.placeCode_ended _) length fetchable, ← take_lengthOf, State.runBytes]
  have decoded : decode (s.placeCode (op :: rest)).params.specifiers ((op :: rest).take (lengthOf op)) = .instr i :=
    (decode_take enough).trans h
  rw [decoded]

/-- Settles O8: a table word is five bytes, placed at `pc`. -/
theorem placedInstructionIsTheNextToRun : Obligations.PlacedInstructionIsTheNextToRun :=
  fun _ _ _ _ h => step_placeCode (by simp [bytesOfTableWord, maxLength]) (decode_of_decodeTableWord h)

end Sys2Proof.Machine

/-! SUPPORT. Encoding and decoding (R71 to R93): what is encoded decodes to what it was. The statements O1 and O5. -/
namespace Sys2Proof
open Machine

/-! ## The layout GK7 (R81 to R83, log 10) -/

/-- A source is read back where the bit `aux` chooses its own kind between Locals and AuxRegs. -/
theorem decodeSrc_encodeSrc {x : Src} {aux : Bool} (isLocal : x.isLocal = true → aux = false)
    (isAux : x.isAux = true → aux = true) : decodeSrc aux (encodeSrc x).1 (encodeSrc x).2 = x := by
  cases x with
  | locals n => rw [isLocal rfl]; rfl
  | aux n => rw [isAux rfl]; rfl
  | const n => decide +revert
  | top | below | topPop | belowPop => rfl

/-- A destination is read back where the bit `aux` chooses its own kind between Locals and AuxRegs. -/
theorem decodeDst_encodeDst {x : Dst} {aux : Bool} (isLocal : x.isLocal = true → aux = false)
    (isAux : x.isAux = true → aux = true) : decodeDst aux (encodeDst x).1 (encodeDst x).2 = some x := by
  cases x with
  | locals n => rw [isLocal rfl]; rfl
  | aux n => rw [isAux rfl]; rfl
  | const n => decide +revert
  | top | below | push => rfl

/-- The fields of the byte Alpha of form RR (GK7). -/
theorem alphaRR_fields (n : Nibble) (aOpt bOpt cOpt aux : Bool) :
    let alpha : Byte := n ++ BitVec.ofBool aOpt ++ BitVec.ofBool bOpt ++ BitVec.ofBool cOpt ++ BitVec.ofBool aux
    alpha.extractLsb' 4 4 = n ∧ alpha.getLsbD 3 = aOpt ∧ alpha.getLsbD 2 = bOpt ∧ alpha.getLsbD 1 = cOpt ∧
      alpha.getLsbD 0 = aux := by
  decide +revert

/-- The fields of the byte Alpha of forms QR and RJB (GK7). -/
theorem alphaPair_fields (pair : BitVec 2) (opt aux : Bool) (n : Nibble) :
    let alpha : Byte := pair ++ BitVec.ofBool opt ++ BitVec.ofBool aux ++ n
    alpha.extractLsb' 6 2 = pair ∧ alpha.getLsbD 5 = opt ∧ alpha.getLsbD 4 = aux ∧ alpha.extractLsb' 0 4 = n := by
  decide +revert

/-- The halves of a byte put together of two (R72). -/
theorem halves_append (hi lo : Nibble) :
    (hi ++ lo : Byte).extractLsb' 4 4 = hi ∧ (hi ++ lo : Byte).extractLsb' 0 4 = lo := by
  decide +revert

/-- A lone source is read back with the bit `aux` that says its own kind. -/
theorem decodeSrc_encodeSrc_self (x : Src) : decodeSrc x.isAux (encodeSrc x).1 (encodeSrc x).2 = x :=
  decodeSrc_encodeSrc (by cases x <;> simp [Src.isLocal, Src.isAux]) id

theorem gk7QR_encodeQR (sel : QrSel) (rb : Src) : gk7QR (encodeQR sel rb) = some (sel, rb) := by
  obtain ⟨pair, opt, aux, n⟩ := alphaPair_fields (encodeQrSel sel) (encodeSrc rb).1 rb.isAux (encodeSrc rb).2
  rw [gk7QR, encodeQR, pair, opt, aux, n, decodeSrc_encodeSrc_self]
  cases sel <;> rfl

theorem gk7RJB_encodeRJB (rs : RjbSrc) (rb : Src) : gk7RJB (encodeRJB rs rb) = some (rs, rb) := by
  obtain ⟨pair, opt, aux, n⟩ := alphaPair_fields (encodeRjbSrc rs) (encodeSrc rb).1 rb.isAux (encodeSrc rb).2
  rw [gk7RJB, encodeRJB, pair, opt, aux, n, decodeSrc_encodeSrc_self]
  cases rs <;> rfl

/-- With a local register among the operands, none of them is an auxiliary one (R216). -/
theorem noAux_of_separateKinds {ra rb : Src} {rc : Dst} (separate : separateKinds ra rb rc = true)
    (someLocal : (ra.isLocal || rb.isLocal || rc.isLocal) = true) : (ra.isAux || rb.isAux || rc.isAux) = false := by
  simpa [separateKinds, someLocal] using separate

/-- The two operand bytes of form RR name the operands they were made from: its one bit `aux` serves all three, as
they keep Locals and AuxRegs apart (R81, R216). -/
theorem gk7RR_encodeRR {ra rb : Src} {rc : Dst} (separate : separateKinds ra rb rc = true) :
    gk7RR ((encodeRR ra rb rc).getD 0 0) ((encodeRR ra rb rc).getD 1 0) = some (ra, rb, rc) := by
  obtain ⟨n, aOpt, bOpt, cOpt, aux⟩ := alphaRR_fields (encodeDst rc).2 (encodeSrc ra).1 (encodeSrc rb).1 (encodeDst rc).1
    (ra.isAux || rb.isAux || rc.isAux)
  obtain ⟨a, b⟩ := halves_append (encodeSrc ra).2 (encodeSrc rb).2
  have noAux := noAux_of_separateKinds separate
  have source_a : decodeSrc (ra.isAux || rb.isAux || rc.isAux) (encodeSrc ra).1 (encodeSrc ra).2 = ra :=
    decodeSrc_encodeSrc (fun h => noAux (by simp [h])) (fun h => by simp [h])
  have source_b : decodeSrc (ra.isAux || rb.isAux || rc.isAux) (encodeSrc rb).1 (encodeSrc rb).2 = rb :=
    decodeSrc_encodeSrc (fun h => noAux (by simp [h])) (fun h => by simp [h])
  have destination : decodeDst (ra.isAux || rb.isAux || rc.isAux) (encodeDst rc).1 (encodeDst rc).2 = some rc :=
    decodeDst_encodeDst (fun h => noAux (by simp [h])) (fun h => by simp [h])
  simp only [encodeRR, List.getD_cons_zero, List.getD_cons_succ, gk7RR, n, aOpt, bOpt, cOpt, aux, a, b, source_a,
    source_b, destination]

/-! ## Cells of the map on encoded operands -/

theorem qr_encodeQR (f : QrSel → Src → Instr) (sel : QrSel) (rb : Src) (b g d : Byte) :
    qr f Specifiers.allGk7 (encodeQR sel rb) b g d = some (f sel rb) := by
  have operands : decodeQR Specifiers.allGk7 (encodeQR sel rb) = some (sel, rb) := gk7QR_encodeQR sel rb
  rw [qr, operands]

theorem rjb_encodeRJB (f : RjbSrc → Src → Byte → Instr) (rs : RjbSrc) (rb : Src) (b g d : Byte) :
    rjb f Specifiers.allGk7 (encodeRJB rs rb) b g d = some (f rs rb b) := by
  have operands : decodeRJB Specifiers.allGk7 (encodeRJB rs rb) = some (rs, rb) := gk7RJB_encodeRJB rs rb
  rw [rjb, operands]

theorem rr_encodeRR (f : Src → Src → Dst → Instr) {ra rb : Src} {rc : Dst} (g d : Byte)
    (separate : separateKinds ra rb rc = true) :
    rr f Specifiers.allGk7 ((encodeRR ra rb rc).getD 0 0) ((encodeRR ra rb rc).getD 1 0) g d = some (f ra rb rc) := by
  have operands : decodeRR Specifiers.allGk7 ((encodeRR ra rb rc).getD 0 0) ((encodeRR ra rb rc).getD 1 0) =
      some (ra, rb, rc) := by
    simp only [decodeRR, Specifiers.allGk7, gk7RR_encodeRR separate, separate, if_true]
  rw [rr, operands]

theorem lrrb_append (f : Byte → Nibble → Nibble → Instr) (c : Specifiers) (a : Byte) (bl br : Nibble) (g d : Byte) :
    lrrb f c a (bl ++ br) g d = some (f a bl br) := by
  obtain ⟨left, right⟩ := halves_append bl br
  rw [lrrb, left, right]

/-- An instruction whose bytes, as many as the opcode's length, its cell makes it of is decoded from them, whatever
bytes follow (R71). -/
theorem decode_encode_of_cell {c : Specifiers} {i : Instr} {op : Byte} {operands : List Byte} (rest : List Byte)
    (bytes : encode i = op :: operands) (length : operands.length + 1 = lengthOf op)
    (cell : cellOf op c (operands.getD 0 0) (operands.getD 1 0) (operands.getD 2 0) (operands.getD 3 0) = some i) :
    decode c (encode i ++ rest) = .instr i := by
  have whole : (op :: (operands ++ rest)).take (lengthOf op) = op :: operands := by simp [← length]
  calc
    decode c (encode i ++ rest)
      = decode c (op :: (operands ++ rest)) := by rw [bytes, List.cons_append]
    _ = decode c (op :: operands) := by rw [← decode_take (by simp [← length]), whole]
    _ = .instr i := decode_of_cell length.ge cell

/-- Settles O1: a cell that reads no specifiers takes the bytes as they are; the layout GK7 is read back field by
field. -/
theorem decodeOfEncodeIsTheInstruction : Obligations.DecodeOfEncodeIsTheInstruction := by
  intro c i rest wf decoders
  cases i
  case qor | qand | qrx | qbc | qadd | qsub | qladd | qlsub =>
    obtain rfl := decoders.resolve_left Bool.noConfusion
    exact decode_encode_of_cell rest rfl rfl (qr_encodeQR _ _ _ 0 0 0)
  case ror | rand | rrx | rbc | radd | rsub | rladd | rlsub | rxor | rfu | rvadd | rvsub | ruadd | rusub =>
    obtain rfl := decoders.resolve_left Bool.noConfusion
    exact decode_encode_of_cell rest rfl rfl (rr_encodeRR _ 0 0 wf)
  case rjeb | rjlb | rjleb | rjneb | rjgeb | rjgb | rjnebj | rjgebj | rjgbj | rjebj | rjlbj | rjlebj =>
    obtain rfl := decoders.resolve_left Bool.noConfusion
    exact decode_encode_of_cell rest rfl rfl (rjb_encodeRJB _ _ _ _ 0 0)
  case rai | wai | rri | wri => exact decode_encode_of_cell rest rfl rfl (lrrb_append _ c _ _ _ 0 0)
  all_goals exact decode_encode_of_cell rest rfl rfl rfl

theorem decode_encode {c : Specifiers} {i : Instr} (wf : i.wf = true)
    (decoders : usesSpecifiers i = false ∨ c = Specifiers.allGk7) : decode c (encode i) = .instr i := by
  simpa using decodeOfEncodeIsTheInstruction c i [] wf decoders

/-- Settles O5: each sample is the encoding of its instruction. -/
theorem sampleEncodingsDecode : Obligations.SampleEncodingsDecode := by
  intro c
  have plain (i : Instr) (wf : i.wf = true) (unused : usesSpecifiers i = false) : decode c (encode i) = .instr i :=
    decode_encode wf (.inl unused)
  have gk7 (i : Instr) (wf : i.wf = true) : decode Specifiers.allGk7 (encode i) = .instr i :=
    decode_encode wf (.inr rfl)
  exact ⟨plain .add rfl rfl, plain .lc11 rfl rfl, plain .sr1 rfl rfl, plain (.lib 42) rfl rfl, plain (.sri2 4) rfl rfl,
    plain (.jdb 0xFF 0xFD) rfl rfl, plain (.rri 0x10 2 5) rfl rfl, plain (.jebb 5 10) rfl rfl,
    plain (.subqb 0 0 0 10) rfl rfl, gk7 (.radd .topPop .belowPop .push) rfl,
    gk7 (.qadd .pushConst0 (.locals 3)) rfl, gk7 (.rjlb .const1 .top 0xFB) rfl⟩

end Sys2Proof

/-! SUPPORT. What each opcode decodes to (R71, R81 to R83, R88): the statements O2, O3 and O4. -/
namespace Sys2Proof
open Machine

/-! ## The length (R71) -/

/-- With enough bytes for the opcode's length, the decoder answers for the opcode's cell (R93). -/
theorem decode_of_enough {op : Byte} {rest : List Byte} (c : Specifiers) (enough : lengthOf op ≤ rest.length + 1) :
    decode c (op :: rest) =
      (cellOf op c (rest.getD 0 0) (rest.getD 1 0) (rest.getD 2 0) (rest.getD 3 0)).elim (.illegalOperands op) .instr := by
  rw [decode, if_neg (by omega)]
  cases cellOf op c (rest.getD 0 0) (rest.getD 1 0) (rest.getD 2 0) (rest.getD 3 0) <;> rfl

theorem decode_of_short {op : Byte} {rest : List Byte} (c : Specifiers) (short : rest.length + 1 < lengthOf op) :
    decode c (op :: rest) = .truncated := by
  rw [decode, if_pos short]

theorem decode_ne_truncated {op : Byte} {rest : List Byte} (c : Specifiers) (enough : lengthOf op ≤ rest.length + 1) :
    decode c (op :: rest) ≠ .truncated := by
  rw [decode_of_enough c enough]
  cases cellOf op c (rest.getD 0 0) (rest.getD 1 0) (rest.getD 2 0) (rest.getD 3 0) <;> exact Decoded.noConfusion

/-- Settles O2, by the table of lengths and the cells that look at no byte beyond them. -/
theorem lengthIsByOpcodeAlone : Obligations.LengthIsByOpcodeAlone := by
  intro c op rest
  exact ⟨lengthOf_eq op, decode_of_short c, fun enough => ⟨(decode_take enough).symm, decode_ne_truncated c enough⟩⟩

/-! ## The opcodes whose operand bytes the launch's decoders read (R81 to R83) -/

/-- The opcodes of form RR. -/
def rrTable : List (Byte × (Src → Src → Dst → Instr)) :=
  [ (0xC0, .ror), (0xC1, .rand), (0xC2, .rrx), (0xC3, .rbc), (0xC4, .radd), (0xC5, .rsub),
    (0xC6, .rladd), (0xC7, .rlsub), (0xC8, .rxor), (0xCA, .rfu), (0xCC, .rvadd), (0xCD, .rvsub),
    (0xCE, .ruadd), (0xCF, .rusub) ]

/-- The opcodes of form QR. -/
def qrTable : List (Byte × (QrSel → Src → Instr)) :=
  [ (0x80, .qor), (0x81, .qand), (0x82, .qrx), (0x83, .qbc), (0x84, .qadd), (0x85, .qsub),
    (0x86, .qladd), (0x87, .qlsub) ]

/-- The opcodes of form RJB. -/
def rjbTable : List (Byte × (RjbSrc → Src → Byte → Instr)) :=
  [ (0xE1, .rjeb), (0xE2, .rjlb), (0xE3, .rjleb), (0xE5, .rjneb), (0xE6, .rjgeb), (0xE7, .rjgb),
    (0xE9, .rjnebj), (0xEA, .rjgebj), (0xEB, .rjgbj), (0xED, .rjebj), (0xEE, .rjlbj), (0xEF, .rjlebj) ]

theorem cellOf_of_mem_rrTable {op : Byte} {f : Src → Src → Dst → Instr} (h : (op, f) ∈ rrTable) :
    cellOf op = rr f ∧ lengthOf op = 3 := by
  have rows : rrTable.map (fun row => (cellOf row.1, lengthOf row.1)) = rrTable.map fun row => (rr row.2, 3) := rfl
  exact Prod.mk.inj (List.map_inj_left.mp rows _ h)

theorem cellOf_of_mem_qrTable {op : Byte} {f : QrSel → Src → Instr} (h : (op, f) ∈ qrTable) :
    cellOf op = qr f ∧ lengthOf op = 2 := by
  have rows : qrTable.map (fun row => (cellOf row.1, lengthOf row.1)) = qrTable.map fun row => (qr row.2, 2) := rfl
  exact Prod.mk.inj (List.map_inj_left.mp rows _ h)

theorem cellOf_of_mem_rjbTable {op : Byte} {f : RjbSrc → Src → Byte → Instr} (h : (op, f) ∈ rjbTable) :
    cellOf op = rjb f ∧ lengthOf op = 3 := by
  have rows : rjbTable.map (fun row => (cellOf row.1, lengthOf row.1)) = rjbTable.map fun row => (rjb row.2, 3) := rfl
  exact Prod.mk.inj (List.map_inj_left.mp rows _ h)

/-- A table whose keys differ answers exactly what it lists. -/
theorem lookupOperands_eq_some_iff {α β : Type} [DecidableEq α] {entries : List (α × β)}
    (distinct : (entries.map Prod.fst).Nodup) (bytes : α) (x : β) :
    lookupOperands entries bytes = some x ↔ (bytes, x) ∈ entries := by
  refine ⟨lookupOperands_mem, fun listed => ?_⟩
  induction entries with
  | nil => cases listed
  | cons e entries ih =>
    obtain ⟨b, y⟩ := e
    obtain ⟨fresh, distinct⟩ := List.nodup_cons.mp distinct
    rcases List.mem_cons.mp listed with same | later
    · cases same
      exact if_pos rfl
    · have other : bytes ≠ b := fun h => fresh (List.mem_map.mpr ⟨(bytes, x), later, h⟩)
      exact (if_neg other).trans (ih distinct later)

/-- A table for form RR answers what it lists, where Locals and AuxRegs are kept apart (R216). -/
theorem decodeRR_table {c : Specifiers} {entries : List ((Byte × Byte) × Src × Src × Dst)} (table : c.rr = .table entries)
    (a b : Byte) : decodeRR c a b =
      (lookupOperands entries (a, b)).filter fun operands => separateKinds operands.1 operands.2.1 operands.2.2 := by
  simp only [decodeRR, table]
  cases lookupOperands entries (a, b) <;> rfl

/-! ## The status of an opcode (R88) -/

/-- The opcodes marked `***`. -/
def reservedOpcodes : List Byte := [0xC9, 0xCB, 0xDF, 0xE0, 0xE4, 0xE8, 0xEC]

/-- The opcodes marked `xop`. -/
def xopOpcodes : List Byte :=
  [ 0x00, 0x01, 0x02, 0x03, 0x04, 0x05, 0x06, 0x07, 0x08, 0x09, 0x0A, 0x0B, 0x0C, 0x0D, 0x0E, 0x0F,
    0x1C, 0x1D, 0x1E, 0x1F, 0x20, 0x21, 0x22, 0x23, 0x24, 0x25, 0x26, 0x27, 0x28, 0x29, 0x2A, 0x2B,
    0x2C, 0x2D, 0x2E, 0x2F, 0x30, 0x33, 0x38, 0x39, 0x3A, 0x3B, 0x3C, 0x3D, 0x3E, 0x3F, 0x4A, 0x50,
    0x51, 0x52, 0x53, 0x55, 0x58, 0x59, 0x5A, 0x5B, 0x5C, 0x5D, 0x5E, 0x5F, 0x8D, 0x8F, 0x93, 0x9C,
    0x9D, 0x9E, 0xF4, 0xF5, 0xF6, 0xF7, 0xFC, 0xFD, 0xFE, 0xFF ]

/-- Whether an instruction has the status of opcode `op` and is well formed. -/
def fits (op : Byte) (i : Instr) : Bool :=
  (isReserved i == reservedOpcodes.contains op) && (isXop i == xopOpcodes.contains op) && i.wf

theorem fits_iff (op : Byte) (i : Instr) : fits op i = true ↔
    (isReserved i = true ↔ op ∈ reservedOpcodes) ∧ (isXop i = true ↔ op ∈ xopOpcodes) ∧ i.wf = true := by
  rw [← List.contains_iff_mem, ← List.contains_iff_mem, ← Bool.eq_iff_iff, ← Bool.eq_iff_iff, fits, Bool.and_eq_true,
    Bool.and_eq_true, beq_iff_eq, beq_iff_eq, and_assoc]

/-- The opcodes whose operand bytes the launch's decoders read. -/
def specifierOpcodes : List Byte := rrTable.map Prod.fst ++ qrTable.map Prod.fst ++ rjbTable.map Prod.fst

/-- All these opcodes are of defined instructions. -/
theorem specifierOpcodes_defined : ∀ op ∈ specifierOpcodes, op ∉ reservedOpcodes ∧ op ∉ xopOpcodes := by decide

/-- The other opcodes, of the 64 from `first` on. -/
def plainOpcodes (first : Nat) : List Byte :=
  ((List.range' first 0x40).map (BitVec.ofNat 8)).filter (!specifierOpcodes.contains ·)

theorem mem_plainOpcodes {op : Byte} (plain : op ∉ specifierOpcodes) {first : Nat} (lo : first ≤ op.toNat)
    (hi : op.toNat < first + 0x40) : op ∈ plainOpcodes first := by
  have listed : op ∈ (List.range' first 0x40).map (BitVec.ofNat 8) :=
    List.mem_map.mpr ⟨op.toNat, List.mem_range'_1.mpr ⟨lo, hi⟩, by simp⟩
  exact List.mem_filter.mpr ⟨listed, by simpa using plain⟩

/-- The cells of the opcodes `ops` answer an instruction of the opcode's status, whatever the operand bytes. -/
def AlwaysFit (ops : List Byte) : Prop :=
  ∀ c a b g d, ops.map (fun op => (cellOf op c a b g d).any (fits op)) = ops.map fun _ => true

theorem alwaysFit_00_3F : AlwaysFit (plainOpcodes 0x00) := fun _ _ _ _ _ => rfl

theorem alwaysFit_40_7F : AlwaysFit (plainOpcodes 0x40) := fun _ _ _ _ _ => rfl

theorem alwaysFit_80_BF : AlwaysFit (plainOpcodes 0x80) := fun _ _ _ _ _ => rfl

theorem alwaysFit_C0_FF : AlwaysFit (plainOpcodes 0xC0) := fun _ _ _ _ _ => rfl

/-- An opcode whose operand bytes the launch's decoders do not read answers an instruction, whatever they are. -/
theorem cellOf_any_fits {op : Byte} (plain : op ∉ specifierOpcodes) (c : Specifiers) (a b g d : Byte) :
    (cellOf op c a b g d).any (fits op) = true := by
  have ofQuarter {first : Nat} (quarter : AlwaysFit (plainOpcodes first)) (lo : first ≤ op.toNat)
      (hi : op.toNat < first + 0x40) : (cellOf op c a b g d).any (fits op) = true :=
    List.map_inj_left.mp (quarter c a b g d) op (mem_plainOpcodes plain lo hi)
  rcases (by omega : op.toNat < 0x40 ∨ 0x40 ≤ op.toNat ∧ op.toNat < 0x80 ∨ 0x80 ≤ op.toNat ∧ op.toNat < 0xC0 ∨
    0xC0 ≤ op.toNat) with hi | ⟨lo, hi⟩ | ⟨lo, hi⟩ | lo
  · exact ofQuarter alwaysFit_00_3F (Nat.zero_le _) hi
  · exact ofQuarter alwaysFit_40_7F lo hi
  · exact ofQuarter alwaysFit_80_BF lo hi
  · exact ofQuarter alwaysFit_C0_FF lo op.isLt

theorem fits_of_mem_rrTable {op : Byte} {f : Src → Src → Dst → Instr} (h : (op, f) ∈ rrTable) (ra rb : Src) (rc : Dst) :
    fits op (f ra rb rc) = separateKinds ra rb rc := by
  have rows : rrTable.map (fun row => fits row.1 (row.2 ra rb rc)) = rrTable.map fun _ => separateKinds ra rb rc := rfl
  exact List.map_inj_left.mp rows _ h

theorem fits_of_mem_qrTable {op : Byte} {f : QrSel → Src → Instr} (h : (op, f) ∈ qrTable) (sel : QrSel) (rb : Src) :
    fits op (f sel rb) = true := by
  have rows : qrTable.map (fun row => fits row.1 (row.2 sel rb)) = qrTable.map fun _ => true := rfl
  exact List.map_inj_left.mp rows _ h

theorem fits_of_mem_rjbTable {op : Byte} {f : RjbSrc → Src → Byte → Instr} (h : (op, f) ∈ rjbTable) (rs : RjbSrc)
    (rb : Src) (b : Byte) : fits op (f rs rb b) = true := by
  have rows : rjbTable.map (fun row => fits row.1 (row.2 rs rb b)) = rjbTable.map fun _ => true := rfl
  exact List.map_inj_left.mp rows _ h

/-- An opcode whose operand bytes the launch's decoders read is of form RR, QR or RJB. -/
theorem mem_specifierOpcodes {op : Byte} (h : op ∈ specifierOpcodes) :
    (∃ f, (op, f) ∈ rrTable) ∨ (∃ f, (op, f) ∈ qrTable) ∨ ∃ f, (op, f) ∈ rjbTable := by
  simpa only [specifierOpcodes, List.mem_append, List.mem_map, Prod.exists, exists_eq_right, exists_and_right,
    or_assoc] using h

/-- What the cell of an opcode answers has the opcode's status and is well formed (R88, R216). -/
theorem fits_of_cellOf {op : Byte} {c : Specifiers} {a b g d : Byte} {i : Instr} (h : cellOf op c a b g d = some i) :
    fits op i = true := by
  by_cases read : op ∈ specifierOpcodes
  · rcases mem_specifierOpcodes read with ⟨f, row⟩ | ⟨f, row⟩ | ⟨f, row⟩
    · rw [(cellOf_of_mem_rrTable row).1] at h
      cases operands : decodeRR c a b <;> simp only [rr, operands, reduceCtorEq] at h
      cases h
      exact (fits_of_mem_rrTable row _ _ _).trans (decodeRR_separate operands)
    · rw [(cellOf_of_mem_qrTable row).1] at h
      cases operands : decodeQR c a <;> simp only [qr, operands, reduceCtorEq] at h
      cases h
      exact fits_of_mem_qrTable row _ _
    · rw [(cellOf_of_mem_rjbTable row).1] at h
      cases operands : decodeRJB c a <;> simp only [rjb, operands, reduceCtorEq] at h
      cases h
      exact fits_of_mem_rjbTable row _ _ _
  · simpa [h] using cellOf_any_fits read c a b g d

/-- Only opcodes whose operand bytes the launch's decoders read reject operand bytes (R89). -/
theorem mem_specifierOpcodes_of_cellOf {op : Byte} {c : Specifiers} {a b g d : Byte} (h : cellOf op c a b g d = none) :
    op ∈ specifierOpcodes := by
  by_contra plain
  simpa [h] using cellOf_any_fits plain c a b g d

/-- Settles O3: the status of each opcode's cell, the cells of the three forms, and what a table answers. -/
theorem decodedInstructionsAreWellFormed : Obligations.DecodedInstructionsAreWellFormed := by
  intro c
  refine ⟨fun bytes i h => ?_, fun op f row a b rest => ?_, fun op f row a rest => ?_, fun op f row a b rest => ?_,
    fun entries table distinct a b ra rb rc => ?_, fun entries table distinct a sel rb => ?_,
    fun entries table distinct a rs rb => ?_⟩
  · obtain ⟨op, rest, _, _, cell⟩ := decode_instr h
    obtain ⟨_, _, wf⟩ := (fits_iff op i).mp (fits_of_cellOf cell)
    exact wf
  · obtain ⟨cell, length⟩ := cellOf_of_mem_rrTable row
    rw [decode_of_enough c (by simp [length]), cell]
    simp only [rr, List.getD_cons_zero, List.getD_cons_succ]
    cases decodeRR c a b <;> rfl
  · obtain ⟨cell, length⟩ := cellOf_of_mem_qrTable row
    rw [decode_of_enough c (by simp [length]), cell]
    simp only [qr, List.getD_cons_zero]
    cases decodeQR c a <;> rfl
  · obtain ⟨cell, length⟩ := cellOf_of_mem_rjbTable row
    rw [decode_of_enough c (by simp [length]), cell]
    simp only [rjb, List.getD_cons_zero, List.getD_cons_succ]
    cases decodeRJB c a <;> rfl
  · rw [decodeRR_table table, Option.filter_eq_some_iff, lookupOperands_eq_some_iff distinct]
  · rw [decodeQR, table, ← lookupOperands_eq_some_iff distinct]
  · rw [decodeRJB, table, ← lookupOperands_eq_some_iff distinct]

theorem lengthOf_le (op : Byte) : lengthOf op ≤ 5 := by
  rw [lengthOf_eq]
  split_ifs <;> decide

/-- Settles O4: five bytes are enough for any opcode, whose cell answers its status or rejects the operand bytes. -/
theorem opcodesHaveTheListedStatus : Obligations.OpcodesHaveTheListedStatus := by
  intro c op a b g d reserved xop
  have enough : lengthOf op ≤ [a, b, g, d].length + 1 := lengthOf_le op
  have answer : decode c [op, a, b, g, d] = (cellOf op c a b g d).elim (.illegalOperands op) .instr :=
    decode_of_enough c enough
  refine ⟨fun i h => ?_, fun o h => ?_, decode_ne_truncated c enough⟩
  · cases cell : cellOf op c a b g d with
    | none => simp [answer, cell] at h
    | some j =>
      obtain rfl : j = i := by simpa [answer, cell] using h
      obtain ⟨isReserved_iff, isXop_iff, _⟩ := (fits_iff op j).mp (fits_of_cellOf cell)
      exact ⟨isReserved_iff, isXop_iff⟩
  · cases cell : cellOf op c a b g d with
    | none =>
      obtain rfl : op = o := by simpa [answer, cell] using h
      exact ⟨rfl, specifierOpcodes_defined op (mem_specifierOpcodes_of_cellOf cell)⟩
    | some j => simp [answer, cell] at h

/-! ## The operand bytes (R72) -/

theorem append_byte_toNat {n : Nat} (x : BitVec n) (b : Byte) : (x ++ b).toNat = x.toNat * 256 + b.toNat := by
  rw [BitVec.toNat_append, ← Nat.shiftLeft_add_eq_or_of_lt b.isLt, Nat.shiftLeft_eq]

theorem alphaBeta_toNat (a b : Byte) : (alphaBeta a b).toNat = a.toNat * 256 + b.toNat := append_byte_toNat a b

theorem quad_toNat (a b g d : Byte) :
    (quad a b g d).toNat = (alphaBeta a b).toNat * 65536 + g.toNat * 256 + d.toNat := by
  have bytes : (quad a b g d).toNat = ((alphaBeta a b).toNat * 256 + g.toNat) * 256 + d.toNat := by
    rw [quad, append_byte_toNat, append_byte_toNat, alphaBeta]
  rw [bytes]
  ring

/-- Settles O6: the byte order by LIQB and RRI, the numbers by how a byte is put after a number and how each is
extended. -/
theorem operandBytesAssembleAsStated : Obligations.OperandBytesAssembleAsStated := by
  intro c a b g d
  have zeroExtended {n : Nat} (x : BitVec n) (fits : n ≤ 32) : (x.setWidth 32).toNat = x.toNat :=
    BitVec.toNat_setWidth_of_le fits
  have signExtended {n : Nat} (x : BitVec n) (fits : n ≤ 32) : (x.signExtend 32).toInt = x.toInt :=
    BitVec.toInt_signExtend_of_le fits
  exact ⟨decode_of_cell (show lengthOf 0x32 ≤ 5 by decide) rfl, decode_of_cell (show lengthOf 0xDA ≤ 3 by decide) rfl,
    zeroExtended a (by decide), signExtended a (by decide), alphaBeta_toNat a b,
    (zeroExtended _ (by decide)).trans (alphaBeta_toNat a b), signExtended _ (by decide), quad_toNat a b g d⟩

end Sys2Proof

/-! SUPPORT. Operand bytes refused on execution (R89, R165, R216): the statements O48 and O56. -/
namespace Sys2Proof.Machine

/-- A command that is both a read and a write, or neither, is refused (R165). -/
theorem State.busCommand_unclassified {s : State} {op cmd : Byte} (onRead onWrite : Result)
    (same : s.cmdReads cmd = s.cmdWrites cmd) : s.busCommand op cmd onRead onWrite = .refused (.illegalOperands op) := by
  rw [State.busCommand, same]
  cases s.cmdWrites cmd <;> rfl

/-- Settles O48: each of the three is a bus command. -/
theorem unclassifiedBusCommandsAreRefused : Obligations.UnclassifiedBusCommandsAreRefused := by
  intro s a b i op same hi
  simp only [List.mem_cons, Prod.mk.injEq, List.not_mem_nil, or_false] at hi
  rcases hi with ⟨rfl, rfl⟩ | ⟨rfl, rfl⟩ | ⟨rfl, rfl⟩ <;>
    exact State.busCommand_unclassified _ _ same

/-- A form RR instruction that mixes Locals and AuxRegs is refused (R216). -/
theorem State.formRR_of_mixed {s : State} (opcode : Byte) (op : AluOp) {ra rb : Src} {rc : Dst}
    (mixed : separateKinds ra rb rc = false) : s.formRR opcode op ra rb rc = .refused (.illegalOperands opcode) :=
  if_neg (by simp [mixed])

/-- Settles O56: each of the fourteen is an operation in form RR. -/
theorem mixedRegisterKindsAreRefused : Obligations.MixedRegisterKindsAreRefused := by
  intro s ra rb rc i op mixed hi
  obtain ⟨alu, formRR⟩ : ∃ alu, exec i s = s.formRR op alu ra rb rc := by
    simp only [List.mem_cons, Prod.mk.injEq, List.not_mem_nil, or_false] at hi
    rcases hi with ⟨rfl, rfl⟩ | ⟨rfl, rfl⟩ | ⟨rfl, rfl⟩ | ⟨rfl, rfl⟩ | ⟨rfl, rfl⟩ | ⟨rfl, rfl⟩ | ⟨rfl, rfl⟩ |
      ⟨rfl, rfl⟩ | ⟨rfl, rfl⟩ | ⟨rfl, rfl⟩ | ⟨rfl, rfl⟩ | ⟨rfl, rfl⟩ | ⟨rfl, rfl⟩ | ⟨rfl, rfl⟩ <;>
      exact ⟨_, rfl⟩
  rw [formRR]
  exact State.formRR_of_mixed op alu mixed

end Sys2Proof.Machine

/-! SUPPORT. Instructions that complete by one move of the state: pushes, results on the stack, jumps and KFC. The statements
O24, O26, O28, O29, O36, O40 and O55. -/
namespace Sys2Proof.Machine

/-- An instruction listed in a table does what the table's rows all do. -/
theorem exec_of_mem_rows {α : Type} {table : List (Instr × α)} {s : State} {meaning : α → Result}
    (rows : table.map (fun row => exec row.1 s) = table.map fun row => meaning row.2) {i : Instr} {x : α}
    (h : (i, x) ∈ table) : exec i s = meaning x :=
  List.map_inj_left.mp rows _ h

/-! ## No-ops and pushes -/

/-- Settles O24: each encodes as its opcode with its operand bytes and is the advance by that length. -/
theorem jumpNoopsOnlyAdvancePc : Obligations.JumpNoopsOnlyAdvancePc := by
  intro s a b g d
  have advances : exec .j1 s = .next (s.advance 1) ∧ exec (.j2 a) s = .next (s.advance 2) ∧
      exec (.j3 a b) s = .next (s.advance 3) ∧ exec (.j5 a b g d) s = .next (s.advance 5) := ⟨rfl, rfl, rfl, rfl⟩
  exact ⟨rfl, rfl, rfl, rfl, advances⟩

/-- Settles O26: every row pushes the word it lists and advances. -/
theorem registerPushesComplete : Obligations.RegisterPushesComplete := by
  intro s i v len hi
  have pushes : exec i s = .next ((s.push v).advance len) :=
    exec_of_mem_rows (meaning := fun row => .next ((s.push row.1).advance row.2)) rfl hi
  exact ⟨_, pushes, pushed_push_advance s v len⟩

/-! ## Results on the stack -/

/-- Two elements made one and `pc` moved on (R101). -/
theorem wroteR_replaceTwo_advance (s : State) (v : Word) (len : Nat) :
    WroteR s ((s.replaceTwo v).advance len) (s.S - 1) v s.carry 1 len :=
  ⟨rfl, (s.readR_replaceTwo · v), rfl, rfl, rfl, ⟨fun _ => rfl, fun _ => rfl, rfl⟩,
    ⟨rfl, rfl, rfl, rfl, rfl, rfl, rfl⟩, fun _ => rfl, rfl⟩

/-- Settles O28: the five that pop make two elements one; SHL and SHR write the top. -/
theorem stackLogicAndShiftsComplete : Obligations.StackLogicAndShiftsComplete := by
  intro s a b
  refine ⟨fun i v len hi => ?_, ⟨_, rfl, wroteOnlyR_writeR_advance s s.S _ 3⟩,
    ⟨_, rfl, wroteOnlyR_writeR_advance s s.S _ 3⟩⟩
  have replaces : exec i s = .next ((s.replaceTwo v).advance len) :=
    exec_of_mem_rows (meaning := fun row => .next ((s.replaceTwo row.1).advance row.2)) rfl hi
  exact ⟨_, replaces, wroteR_replaceTwo_advance s v len⟩

/-- Settles O29: the word of an exact result that fits reads as that number, and the stack shape keeps the frame. -/
theorem stackAddAndSubtractComplete : Obligations.StackAddAndSubtractComplete := by
  intro s i z hi lo hi'
  have yields (op) {x y} (hz : some z = exactResult op x y s.carry) : s.AluYields op x y (BitVec.ofInt 32 z) false :=
    State.aluYields_of_fits hz.symm lo hi'
  suffices h : ∃ t, exec i s = .next t ∧ WroteR s t (s.S - 1) (BitVec.ofInt 32 z) false 1 1 by
    obtain ⟨t, ht, wrote⟩ := h
    exact ⟨t, _, ht, toInt_ofInt_of_fits lo hi', wrote⟩
  simp only [List.mem_cons, Prod.mk.injEq, List.not_mem_nil, or_false] at hi
  rcases hi with ⟨rfl, hz⟩ | ⟨rfl, hz⟩
  · exact State.stackAlu_of_yields (yields .add (congrArg some hz))
  · exact State.stackAlu_of_yields (yields .sub (congrArg some hz))

/-! ## RADD on the stack -/

/-- With two elements popped first, a pushed result stands where the lower of them was (R218, D21). -/
theorem State.writeDst_push_of_postPop {s : State} (postPop : s.params.rcBase = .postPop) (r : Word) :
    s.writeDst .push 2 r = s.replaceTwo r := by
  have base : s.dstBase 2 = s.S - 2 := by simp [State.dstBase, postPop]
  have lower : s.S - 2 + 1 = s.S - 1 := by bv_omega
  simp only [State.writeDst, State.replaceTwo, base, lower]

/-- ADD raises the overflow trap or makes the two elements their sum (R101). -/
theorem exec_add (s : State) :
    exec .add s = if (addOvf (s.readR s.S) (s.readR (s.S - 1)) s.carry).2 then s.raise .overflow
      else .next (((s.setCarry false).replaceTwo (addOvf (s.readR s.S) (s.readR (s.S - 1)) s.carry).1).advance 1) :=
  rfl

/-- RADD with both top elements popped and the result pushed does so too, with its own length (R218, R225). -/
theorem exec_radd_onStack {s : State} (postPop : s.params.rcBase = .postPop) :
    exec (.radd .topPop .belowPop .push) s =
      if (addOvf (s.readR s.S) (s.readR (s.S - 1)) s.carry).2 then s.raise .overflow
      else .next (((s.setCarry false).replaceTwo (addOvf (s.readR s.S) (s.readR (s.S - 1)) s.carry).1).advance 3) := by
  rw [← State.writeDst_push_of_postPop (s := s.setCarry false) postPop]
  rfl

/-- Settles O55: both are one choice between the trap and the sum, which differ in the advance alone. -/
theorem registerAddOnTheStackIsAdd : Obligations.RegisterAddOnTheStackIsAdd := by
  intro s postPop
  rw [exec_add, exec_radd_onStack postPop]
  refine ⟨fun t h => ?_, fun f h => ?_⟩
  · split at h
    · exact absurd h (s.raise_ne_next t _)
    · rename_i fits
      cases h
      rw [if_neg fits]
      rfl
  · split at h
    · rename_i overflow
      rw [if_pos overflow, h]
    · cases h

/-! ## Jumps and KFC -/

/-- Settles O36: each is the state with `S` and `pc` set; a sign-extended operand is by definition the word of its signed
value. -/
theorem jumpsComplete : Obligations.JumpsComplete := by
  intro s a b g d i newS newPc hi
  have jumps : exec i s = .next { s with S := newS, L := s.L, pc := newPc } :=
    exec_of_mem_rows (meaning := fun row => .next { s with S := row.1, L := s.L, pc := row.2 }) rfl hi
  exact ⟨_, jumps, moved_set s newS s.L newPc⟩

theorem State.enterKernel_of_room {s : State} (room : s.csFull = false) :
    s.enterKernel = .next
      { s.linked 1 with pc := s.params.instTrap[0x54], kernel := true, trapsEnabled := false } :=
  State.pushLink_of_room 1 _ room

/-- Settles O40: with room for its link KFC enters kernel mode, and every other clause reads a field it leaves alone. -/
theorem kfcEntersKernelMode : Obligations.KfcEntersKernelMode := by
  intro s room
  exact ⟨_, State.enterKernel_of_room room, rfl, rfl, rfl, rfl, rfl, rfl, fun _ => rfl, rfl,
    ⟨fun _ => rfl, fun _ => rfl, rfl⟩, ⟨fun _ => rfl, rfl⟩, rfl, rfl, rfl, rfl⟩

end Sys2Proof.Machine

/-! SUPPORT. Instructions with a literal operand, and the conditional store CST: the statements O25, O30 and O44. -/
namespace Sys2Proof.Machine

/-! ## Literal pushes -/

theorem byteZ_eq (a : Byte) : byteZ a = BitVec.ofNat 32 a.toNat := (BitVec.ofNat_toNat 32 a).symm

theorem quad_eq (a b g d : Byte) :
    quad a b g d = BitVec.ofNat 32 (((a.toNat * 256 + b.toNat) * 256 + g.toNat) * 256 + d.toNat) := by
  have bytes : (quad a b g d).toNat = ((a.toNat * 256 + b.toNat) * 256 + g.toNat) * 256 + d.toNat := by
    rw [quad_toNat, alphaBeta_toNat]
    ring
  rw [← bytes, BitVec.ofNat_toNat, BitVec.setWidth_eq]

/-- Settles O25: each pushes the word its operand bytes assemble and advances. -/
theorem literalPushesComplete : Obligations.LiteralPushesComplete := by
  intro s a b g d
  rw [← byteZ_eq, ← alphaBetaZ_eq, ← quad_eq]
  exact ⟨⟨_, rfl, pushed_push_advance s (byteZ a) 2⟩, ⟨_, rfl, pushed_push_advance s (alphaBetaZ a b) 3⟩,
    ⟨_, rfl, pushed_push_advance s (quad a b g d) 5⟩⟩

/-! ## Literal adds and subtracts -/

/-- An operation on the top and a literal that goes on leaves its result in the top, `S` unmoved (R131). -/
theorem State.literalAlu_of_yields {s : State} {op : AluOp} {v r : Word} {c : Bool} {len : Nat}
    (h : s.AluYields op (s.readR s.S) v r c) :
    ∃ t, s.literalAlu op v len = .next t ∧ WroteOnlyR s t s.S r c len :=
  ⟨_, h _, wroteOnlyR_writeR_advance (s.setCarry c) s.S r len⟩

/-- Settles O30: each is `AluOp.add` or `AluOp.sub` on the top and its literal, whose signed value is the one the exact
result is taken of. -/
theorem literalAddAndSubtractComplete : Obligations.LiteralAddAndSubtractComplete := by
  intro s a b g d i z len hi lo hi'
  have completes (op) {v} (hz : some z = exactResult op (s.readR s.S) v s.carry) :
      ∃ t, s.literalAlu op v len = .next t ∧ WroteOnlyR s t s.S (BitVec.ofInt 32 z) false len :=
    State.literalAlu_of_yields (State.aluYields_of_fits hz.symm lo hi')
  suffices h : ∃ t, exec i s = .next t ∧ WroteOnlyR s t s.S (BitVec.ofInt 32 z) false len by
    obtain ⟨t, ht, wrote⟩ := h
    exact ⟨t, _, ht, toInt_ofInt_of_fits lo hi', wrote⟩
  simp only [List.mem_cons, Prod.mk.injEq, List.not_mem_nil, or_false, ← byteZ_toInt, ← alphaBetaZ_toInt] at hi
  rcases hi with ⟨rfl, hz, rfl⟩ | ⟨rfl, hz, rfl⟩ | ⟨rfl, hz, rfl⟩ | ⟨rfl, hz, rfl⟩ | ⟨rfl, hz, rfl⟩ | ⟨rfl, hz, rfl⟩
  · exact completes .add (congrArg some hz)
  · exact completes .add (congrArg some hz)
  · exact completes .add (congrArg some hz)
  · exact completes .sub (congrArg some hz)
  · exact completes .sub (congrArg some hz)
  · exact completes .sub (congrArg some hz)

/-! ## The conditional store -/

/-- CST that reads the old value stores the new one before it pushes the word read (R136). -/
theorem exec_cst_of_match {s : State} {a : Byte} {m : Word} (holds : s.Holds (s.readR (s.S - 2) + byteZ a) m)
    (same : m = s.readR s.S) :
    exec (.cst a) s =
      .next (((s.storeWord (s.readR (s.S - 2) + byteZ a) (s.readR (s.S - 1))).push m).advance 2) := by
  have admitted : s.admits (s.readR (s.S - 2) + byteZ a) = true := holds.left
  calc
    exec (.cst a) s = _ := State.memRead_of_holds _ holds
    _ = _ := if_pos same
    _ = _ := State.memWrite_of_admits _ _ admitted

/-- CST that reads another value only pushes it (R136). -/
theorem exec_cst_of_mismatch {s : State} {a : Byte} {m : Word} (holds : s.Holds (s.readR (s.S - 2) + byteZ a) m)
    (differs : m ≠ s.readR s.S) : exec (.cst a) s = .next ((s.push m).advance 2) :=
  (State.memRead_of_holds _ holds).trans (if_neg differs)

/-- Settles O44: a push, from the state after the store where the word matches, which differs from `s` in memory alone. -/
theorem conditionalStoreCompletes : Obligations.ConditionalStoreCompletes := by
  intro s a m holds
  by_cases same : m = s.readR s.S
  · obtain ⟨newS, sets, newL, carry, newPc, files, system, -⟩ :=
      pushed_push_advance (s.storeWord (s.readR (s.S - 2) + byteZ a) (s.readR (s.S - 1))) m 2
    simp only [if_pos same]
    exact ⟨_, exec_cst_of_match holds same, newS, sets, newL, carry, newPc, files, system, storesWord_storeWord s _ _⟩
  · simp only [if_neg same]
    exact ⟨_, exec_cst_of_mismatch holds same, pushed_push_advance s m 2⟩

end Sys2Proof.Machine

/-! SUPPORT. The conditional jumps of three bytes, and the literal compare jumps of form JBB: the statement O37. -/
namespace Sys2Proof.Machine

/-! ## A pop and a branch -/

/-- The pop stands whether or not the jump is taken, and the target counts from the jump's own address (R195; D15). -/
theorem moved_pop_branch (s : State) (n : StackIdx) (taken : Bool) (beta : Byte) :
    Moved s ((s.pop n).branch taken beta) (s.wrap (s.S - n)) s.L
      (s.pc + (if taken then BitVec.ofInt 32 beta.toInt else 3)) := by
  cases taken with
  | false => exact moved_set s (s.wrap (s.S - n)) s.L (s.pc + 3)
  | true => exact moved_set s (s.wrap (s.S - n)) s.L (s.pc + BitVec.ofInt 32 beta.toInt)

/-! ## The test against a literal -/

theorem byteZ_toNat (a : Byte) : (byteZ a).toNat = a.toNat :=
  BitVec.toNat_setWidth_of_le (by decide)

/-- The whole word counts: one with a bit above the low byte is no literal's (R197). -/
theorem eq_byteZ_iff (v : Word) (a : Byte) : v = byteZ a ↔ v.toNat = a.toNat := by
  rw [← BitVec.toNat_inj, byteZ_toNat]

theorem Cond.holds_eq_byteZ (v : Word) (a : Byte) : Cond.eq.holds v (byteZ a) = decide (v.toNat = a.toNat) :=
  decide_eq_decide.mpr (eq_byteZ_iff v a)

theorem Cond.holds_ne_byteZ (v : Word) (a : Byte) : Cond.ne.holds v (byteZ a) = decide (v.toNat ≠ a.toNat) :=
  calc
    Cond.ne.holds v (byteZ a) = !Cond.eq.holds v (byteZ a) := rfl
    _ = decide (v.toNat ≠ a.toNat) := by rw [Cond.holds_eq_byteZ, decide_not]

/-! ## The jumps of form JBB -/

/-- Settles O37: each is a pop and a branch on its condition of the top and AlphaZ, which the statement writes as numbers. -/
theorem literalCompareJumpsComplete : Obligations.LiteralCompareJumpsComplete := by
  intro s a b i taken hi
  rw [← Cond.holds_eq_byteZ, ← Cond.holds_ne_byteZ] at hi
  have branches : exec i s = .next ((s.pop 1).branch taken b) :=
    exec_of_mem_rows (meaning := fun taken => .next ((s.pop 1).branch taken b)) rfl hi
  exact ⟨_, branches, moved_pop_branch s 1 taken b⟩

end Sys2Proof.Machine

/-! SUPPORT. Stores to a local register: the statement O27. -/
namespace Sys2Proof.Machine

/-- A stack register written, elements popped and `pc` moved on: a pop leaves every register as it is, so the word
written stays readable even where it is the element popped (R18). -/
theorem wroteR_writeR_pop_advance (s : State) (j : StackIdx) (v : Word) (pops : StackIdx) (len : Nat) :
    WroteR s (((s.writeR j v).pop pops).advance len) j v s.carry pops len :=
  ⟨rfl, (s.readR_writeR · j v), rfl, rfl, rfl, ⟨fun _ => rfl, fun _ => rfl, rfl⟩,
    ⟨rfl, rfl, rfl, rfl, rfl, rfl, rfl⟩, fun _ => rfl, rfl⟩

/-- Settles O27: every row writes the top to the local register it lists, pops one and advances. -/
theorem localStoresComplete : Obligations.LocalStoresComplete := by
  intro s i n hi
  have stores : exec i s = .next (((s.writeR (s.localIdx n) (s.readR s.S)).pop 1).advance 1) :=
    exec_of_mem_rows (meaning := fun n => .next (((s.writeR (s.localIdx n) (s.readR s.S)).pop 1).advance 1)) rfl hi
  exact ⟨_, stores, wroteR_writeR_pop_advance s (s.localIdx n) (s.readR s.S) 1 1⟩

end Sys2Proof.Machine

/-! SUPPORT. The register operations that never trap, the sources they read, and the compare jumps of form RJB: the
statements O38 and O51. -/
namespace Sys2Proof.Machine

/-! ## The register compare jumps (R260 to R268) -/

/-- Settles O38: a specifier of R260 is the source of R217 it names, and each jump pops both sources and branches on its
condition of the words they read. -/
theorem registerCompareJumpsComplete : Obligations.RegisterCompareJumpsComplete := by
  refine ⟨fun s rs v pops hrs => ?_, fun s rs rb beta i taken hi => ?_⟩
  · simp only [List.mem_cons, Prod.mk.injEq, List.not_mem_nil, or_false] at hrs
    rcases hrs with ⟨rfl, rfl, rfl⟩ | ⟨rfl, rfl, rfl⟩ | ⟨rfl, rfl, rfl⟩ | ⟨rfl, rfl, rfl⟩ <;> exact ⟨rfl, rfl⟩
  · have differs : decide (s.readSrc (rjbSrc rs) ≠ s.readSrc rb) =
        Cond.ne.holds (s.readSrc (rjbSrc rs)) (s.readSrc rb) := decide_not
    rw [differs] at hi
    have branches : exec i s = .next ((s.pop (srcPops (rjbSrc rs) + srcPops rb)).branch taken beta) :=
      exec_of_mem_rows
        (meaning := fun taken => .next ((s.pop (srcPops (rjbSrc rs) + srcPops rb)).branch taken beta)) rfl hi
    exact ⟨_, branches, moved_pop_branch s (srcPops (rjbSrc rs) + srcPops rb) taken beta⟩

/-! ## Unsigned sums and differences (R13) -/

theorem uAdd_word (a b : Word) (c : Bool) : (uAdd a b c).1 = a + b + (if c then 1 else 0) := by
  cases c <;> simp [uAdd, carryInt, BitVec.ofInt_add]

theorem uSub_word (a b : Word) (c : Bool) : (uSub a b c).1 = a - b - (if c then 1 else 0) := by
  cases c <;> simp [uSub, carryInt, Int.sub_eq_add_neg, BitVec.sub_eq_add_neg, BitVec.ofInt_add, BitVec.ofInt_neg]

theorem uAdd_carryOut (a b : Word) (c : Bool) :
    (uAdd a b c).2 = decide (2 ^ 32 ≤ a.toNat + b.toNat + (if c then 1 else 0)) := by
  refine decide_eq_decide.mpr ?_
  rw [carryInt]
  split <;> omega

theorem uSub_borrow (a b : Word) (c : Bool) :
    (uSub a b c).2 = decide (a.toNat < b.toNat + (if c then 1 else 0)) := by
  refine decide_eq_decide.mpr ?_
  rw [carryInt]
  split <;> omega

theorem State.aluYields_uadd (s : State) (a b : Word) :
    s.AluYields .uadd a b (a + b + (if s.carry then 1 else 0))
      (decide (2 ^ 32 ≤ a.toNat + b.toNat + (if s.carry then 1 else 0))) := by
  rw [← uAdd_word, ← uAdd_carryOut]
  exact fun _ => rfl

theorem State.aluYields_usub (s : State) (a b : Word) :
    s.AluYields .usub a b (a - b - (if s.carry then 1 else 0))
      (decide (a.toNat < b.toNat + (if s.carry then 1 else 0))) := by
  rw [← uSub_word, ← uSub_borrow]
  exact fun _ => rfl

/-! ## The register operations that never trap (R222) -/

/-- Settles O51: the tables row by row; then each operation yields its word and carry in the register shapes, the six
of form RR and the two of form QR that leave the carry by definition. -/
theorem plainRegisterOperationsComplete : Obligations.PlainRegisterOperationsComplete := by
  refine ⟨fun s n c x v pops hx => ?sources, fun number rc ra hpair => ?pairs, fun s ra rb rc sel hk =>
    ⟨fun i r c hi => ?formRR, fun i r hi => ?formQR⟩⟩
  case sources =>
    simp only [List.mem_cons, Prod.mk.injEq, List.not_mem_nil, or_false] at hx
    rcases hx with ⟨rfl, rfl, rfl⟩ | ⟨rfl, rfl, rfl⟩ | ⟨rfl, rfl, rfl⟩ | ⟨rfl, rfl, rfl⟩ | ⟨rfl, rfl, rfl⟩ |
      ⟨rfl, rfl, rfl⟩ | ⟨rfl, rfl, rfl⟩ <;> exact ⟨rfl, rfl⟩
  case pairs =>
    simp only [List.mem_cons, Prod.mk.injEq, List.not_mem_nil, or_false] at hpair
    rcases hpair with ⟨rfl, rfl, rfl⟩ | ⟨rfl, rfl, rfl⟩ | ⟨rfl, rfl, rfl⟩ | ⟨rfl, rfl, rfl⟩ <;> exact ⟨rfl, rfl⟩
  case formRR =>
    simp only [List.mem_cons, Prod.mk.injEq, List.not_mem_nil, or_false] at hi
    rcases hi with ⟨rfl, rfl, rfl⟩ | ⟨rfl, rfl, rfl⟩ | ⟨rfl, rfl, rfl⟩ | ⟨rfl, rfl, rfl⟩ | ⟨rfl, rfl, rfl⟩ |
      ⟨rfl, rfl, rfl⟩ | ⟨rfl, rfl, rfl⟩ | ⟨rfl, rfl, rfl⟩
    · exact State.formRR_of_yields (op := .or) hk fun _ => rfl
    · exact State.formRR_of_yields (op := .and) hk fun _ => rfl
    · exact State.formRR_of_yields (op := .xor) hk fun _ => rfl
    · exact State.formRR_of_yields (op := .vadd) hk fun _ => rfl
    · exact State.formRR_of_yields (op := .vsub) hk fun _ => rfl
    · exact State.formRR_of_yields (op := .fu) hk fun _ => rfl
    · exact State.formRR_of_yields hk (s.aluYields_uadd _ _)
    · exact State.formRR_of_yields hk (s.aluYields_usub _ _)
  case formQR =>
    simp only [List.mem_cons, Prod.mk.injEq, List.not_mem_nil, or_false] at hi
    rcases hi with ⟨rfl, rfl⟩ | ⟨rfl, rfl⟩
    · exact State.formQR_of_yields (op := .or) fun _ => rfl
    · exact State.formQR_of_yields (op := .and) fun _ => rfl

end Sys2Proof.Machine

/-! SUPPORT. The xop entry, continued or terminal (R275, R276), and the reserved opcodes (R277): the statements O57, O58
and O59. -/
namespace Sys2Proof.Machine

/-! ## The xop entry (R275, R276, R291) -/

/-- With traps enabled and room for its link, the xop entry is a call of the handler where the launch continues xops
(R276). -/
theorem State.takeXop_of_room {s : State} (op : Byte) (len : Nat) (operands : List Byte)
    (enabled : s.trapsEnabled = true) (continues : s.params.xopContinues = true) (room : s.csFull = false) :
    s.takeXop op len operands = .next ((s.linked len).jump (s.params.instTrap[op.toNat]'op.isLt)) := by
  have continued : (s.trapsEnabled && s.params.xopContinues) = true := by rw [enabled, continues]; rfl
  exact (if_pos continued).trans (State.pushLink_of_room len _ room)

/-- With traps disabled, or where the launch does not continue xops, the xop entry raises the trap Xop. -/
theorem State.takeXop_of_terminal {s : State} (op : Byte) (len : Nat) (operands : List Byte)
    (terminal : (s.trapsEnabled && s.params.xopContinues) = false) :
    s.takeXop op len operands = s.raise (.xop op operands) :=
  if_neg (Bool.eq_false_iff.mp terminal)

/-- Settles O57: a row of the table takes the xop entry, which here calls the handler. -/
theorem xopContinuesAtItsHandler : Obligations.XopContinuesAtItsHandler := by
  intro s a b g d i op len operands enabled continues room hi
  rw [exec_of_mem_xopTable hi, State.takeXop_of_room op len operands enabled continues room]
  exact ⟨_, rfl, called_linked_jump s s.S _ len⟩

/-- Settles O58: either condition makes the xop entry raise the trap, which is terminal with traps enabled and the
refusal with traps disabled. -/
theorem xopTrapsWithItsOperandBytes : Obligations.XopTrapsWithItsOperandBytes := by
  intro s a b g d i op len operands hi
  rw [exec_of_mem_xopTable hi]
  refine ⟨fun enabled stops => ?_, fun disabled => ?_⟩
  · have terminal : (s.trapsEnabled && s.params.xopContinues) = false := by rw [stops, Bool.and_false]
    rw [State.takeXop_of_terminal op len operands terminal, s.raise_enabled _ enabled]
  · have terminal : (s.trapsEnabled && s.params.xopContinues) = false := by rw [disabled, Bool.false_and]
    rw [State.takeXop_of_terminal op len operands terminal, s.raise_disabled _ disabled]

/-! ## The reserved opcodes (R277) -/

/-- Settles O59: every row is the refusal of the opcode it lists, by its arm of `exec`. -/
theorem reservedOpcodesAreRefused : Obligations.ReservedOpcodesAreRefused :=
  fun _ _ _ _ _ hi => exec_of_mem_rows (meaning := fun op => .refused (.reserved op)) rfl hi

end Sys2Proof.Machine

/-! SUPPORT. How an instruction can end, next state or stop (R283, R284, R291): the statement O17. -/
namespace Sys2Proof.Machine

/-- What an instruction can answer on `s`: a next state; a trap raised, which the trap enable masks; LinkUnderflow at
the instruction's own address, which nothing masks; a read of a word that holds no value; or a refusal that is not for
a trap. -/
inductive State.Answers (s : State) : Result → Prop
  | next (t) : s.Answers (.next t)
  | raised {kind} : kind ≠ .linkUnderflow → s.Answers (s.raise kind)
  | underflow : s.Answers (.fault (.trap .linkUnderflow s.pc))
  | unwritten (a) : s.Answers (.fault (.unwrittenWord a))
  | refused {r} : (∀ kind, r ≠ .trapWhileDisabled kind) → s.Answers (.refused r)

namespace State.Answers
variable {s : State}

theorem raiseOr {kind : TrapKind} {c : Bool} {o : Result} (masked : kind ≠ .linkUnderflow) (ho : s.Answers o) :
    s.Answers (if c then s.raise kind else o) := by
  cases c with
  | false => exact ho
  | true => exact .raised masked

theorem memRead {u : State} {a : Word} {k : Word → Result} (hk : ∀ m, s.Answers (k m)) :
    s.Answers (u.memRead a k) := by
  unfold State.memRead
  split
  · split
    · exact hk _
    · exact .unwritten a
  · exact .refused nofun

theorem memWrite {u : State} {a v : Word} {k : State → Result} (hk : ∀ t, s.Answers (k t)) :
    s.Answers (u.memWrite a v k) := by
  unfold State.memWrite
  split
  · exact hk _
  · exact .refused nofun

theorem loadThroughLocal {n : Nibble} {alpha : Byte} : s.Answers (s.loadThroughLocal n alpha) :=
  memRead fun _ => .next _

theorem storeThroughLocal {n : Nibble} {alpha : Byte} : s.Answers (s.storeThroughLocal n alpha) :=
  memWrite fun _ => .next _

theorem pushLink {u : State} {len : Nat} {k : State → Result} (hk : ∀ t, s.Answers (k t)) :
    s.Answers (u.pushLink len k) := by
  unfold State.pushLink
  split
  · exact .refused nofun
  · exact hk _

theorem busCommand {u : State} {op cmd : Byte} {onRead onWrite : Result} (hr : s.Answers onRead)
    (hw : s.Answers onWrite) : s.Answers (u.busCommand op cmd onRead onWrite) := by
  unfold State.busCommand
  split
  · exact hr
  · exact hw
  · exact .refused nofun

theorem pregWrite {u : State} {i : Byte} {v : Word} {k : State → Result} (hk : ∀ t, s.Answers (k t)) :
    s.Answers (u.pregWrite i v k) := by
  unfold State.pregWrite
  split
  · exact .refused nofun
  · exact hk _
  · exact hk _
  · exact hk _

theorem call {u : State} {target : Word} {len : Nat} : s.Answers (u.call target len) := pushLink fun _ => .next _

theorem enterKernel {u : State} : s.Answers u.enterKernel := pushLink fun _ => .next _

/-- A return underflows at the address of its instruction, `S` moved or not. -/
theorem ret {u : State} (pc : u.pc = s.pc) : s.Answers u.ret := by
  cases h : u.CS with
  | nil =>
    rw [State.ret_of_empty h, pc]
    exact .underflow
  | cons link rest =>
    rw [State.ret_of_link h]
    exact .next _

theorem takeXop {op : Byte} {len : Nat} {operands : List Byte} : s.Answers (s.takeXop op len operands) := by
  unfold State.takeXop
  split
  · exact pushLink fun _ => .next _
  · exact .raised nofun

theorem alu {op : AluOp} {a b : Word} {k : Word → State → Result} (hk : ∀ r t, s.Answers (k r t)) :
    s.Answers (s.alu op a b k) := by
  cases op with
  | rx => exact memRead fun m => hk m s
  | bc | add | sub | ladd | lsub => exact raiseOr nofun (hk _ _)
  | or | and | xor | fu | vadd | vsub | uadd | usub => exact hk _ _

theorem stackAlu {op : AluOp} {a b : Word} : s.Answers (s.stackAlu op a b) := alu fun _ _ => .next _

theorem literalAlu {op : AluOp} {v : Word} {len : Nat} : s.Answers (s.literalAlu op v len) := alu fun _ _ => .next _

theorem regAlu {op : AluOp} {ra rb : Src} {rc : Dst} {len : Nat} : s.Answers (s.regAlu op ra rb rc len) :=
  alu fun _ _ => .next _

theorem formQR {op : AluOp} {sel : QrSel} {rb : Src} : s.Answers (s.formQR op sel rb) := regAlu

theorem formRR {opcode : Byte} {op : AluOp} {ra rb : Src} {rc : Dst} : s.Answers (s.formRR opcode op ra rb rc) := by
  unfold State.formRR
  split
  · exact regAlu
  · exact .refused nofun

theorem cst {alpha : Byte} : s.Answers (execCst alpha s) := by
  refine memRead fun m => ?_
  split
  · exact memWrite fun _ => .next _
  · exact .next _

theorem sip {alpha : Byte} : s.Answers (execSip alpha s) := by
  unfold execSip
  split
  · exact pregWrite fun _ => .next _
  · exact .raised nofun

end State.Answers

open State.Answers in
/-- Every instruction ends in one of these ways. -/
theorem exec_answers (i : Instr) (s : State) : s.Answers (exec i s) := by
  unfold exec
  cases i
  case xop20 | xop21 | xop22 | xop23 | xop24 | xop25 | xop26 | xop27 | xop28 | xop29 | xop2A | xop2B | xop2C |
      xop2D | xop2E | xop2F | xop30 | xop33 | xop38 | xop39 | xop3A | xop3B | xop3C | xop3D | xop3E | xop3F |
      xop8D | xop8F | xop93 | xop9C | xop9D | xop9E | xopF4 | xopF5 | xopF6 | xopF7 | xopFC | xopFD | xopFE |
      xopFF | xop00 | xop01 | xop02 | xop03 | xop04 | xop05 | xop06 | xop07 | xop08 | xop09 | xop0A | xop0B |
      xop0C | xop0D | xop0E | xop0F | xop1C | xop1D | xop1E | xop1F | xop4A | xop50 | xop51 | xop52 | xop53 |
      xop55 | xop58 | xop59 | xop5A | xop5B | xop5C | xop5D | xop5E | xop5F => exact takeXop
  case reservedC9 | reservedCB | reservedDF | reservedE0 | reservedE4 | reservedE8 | reservedEC => exact .refused nofun
  case liqb | lib | lidb | lc0 | lc1 | lc2 | lc3 | lc4 | lc5 | lc6 | lc7 | lc8 | lc9 | lc10 | lc11 | dup | lr0 |
      lr1 | lr2 | lr3 | lr4 | lr5 | lr6 | lr7 | lr8 | lr9 | lr10 | lr11 | lr12 | lr13 | lr14 | lr15 | sr0 | sr1 |
      sr2 | sr3 | sr4 | sr5 | sr6 | sr7 | sr8 | sr9 | sr10 | sr11 | sr12 | sr13 | sr14 | sr15 | j1 | j2 | j3 | j5 |
      jb | jdb | jqb | jsd | jsr | al | als | as | asl | dis | exdis | fsdb | shl | shr | shdl | shdr | lip | rjeb |
      rjlb | rjleb | rjneb | rjgeb | rjgb | rjnebj | rjgebj | rjgbj | rjebj | rjlbj | rjlebj | jebb | jnebb |
      jebbj | jnebbj => exact .next _
  case dfc | lfc | sfc => exact call
  case sfci => exact memRead fun _ => call
  case kfc => exact enterKernel
  case ret | retn => exact ret rfl
  case rb | rsb | lgf | rai | rri => exact memRead fun _ => .next _
  case wb | wsb | psb | wai | wri => exact memWrite fun _ => .next _
  case lri0 | lri1 | lri2 | lri3 | lri4 | lri5 | lri6 | lri7 | lri8 | lri9 | lri10 | lri11 | lri12 | lri13 |
      lri14 | lri15 => exact loadThroughLocal
  case sri0 | sri1 | sri2 | sri3 | sri4 | sri5 | sri6 | sri7 | sri8 | sri9 | sri10 | sri11 | sri12 | sri13 |
      sri14 | sri15 => exact storeThroughLocal
  case cst => exact cst
  case sip => exact sip
  case ioda | iod | ion => exact busCommand (.next _) (.next _)
  case bc => exact alu fun _ _ => .next _
  case or | and | rx | add | sub | ladd | lsub => exact stackAlu
  case addqb | subqb | addb | subb | adddb | subdb => exact literalAlu
  case qor | qand | qrx | qbc | qadd | qsub | qladd | qlsub => exact formQR
  case ror | rand | rrx | rbc | radd | rsub | rladd | rlsub | rxor | rfu | rvadd | rvsub | ruadd | rusub => exact formRR

/-- A raised trap is refused for its own kind, with traps disabled (R291). -/
theorem State.raise_refused {s : State} {kind k : TrapKind}
    (h : s.raise kind = .refused (.trapWhileDisabled k)) : k = kind ∧ s.trapsEnabled = false := by
  cases enabled : s.trapsEnabled with
  | true =>
    rw [s.raise_enabled kind enabled] at h
    cases h
  | false =>
    rw [s.raise_disabled kind enabled] at h
    cases h
    exact ⟨rfl, rfl⟩

theorem State.Answers.trap_precise {s : State} {o : Result} (h : s.Answers o) {k : TrapKind} {p : Word}
    (trap : o = .fault (.trap k p)) : p = s.pc ∧ (s.trapsEnabled = true ∨ k = .linkUnderflow) := by
  cases h with
  | next | unwritten | refused => cases trap
  | raised =>
    obtain ⟨same, enabled⟩ := s.raise_fault _ _ trap
    cases same
    exact ⟨rfl, .inl enabled⟩
  | underflow =>
    cases trap
    exact ⟨rfl, .inr rfl⟩

theorem State.Answers.refusal_masked {s : State} {o : Result} (h : s.Answers o) {k : TrapKind}
    (refusal : o = .refused (.trapWhileDisabled k)) : s.trapsEnabled = false ∧ k ≠ .linkUnderflow := by
  cases h with
  | next | unwritten | underflow => cases refusal
  | refused other => exact absurd (Host.Outcome.refused.inj refusal) (other k)
  | raised masked =>
    obtain ⟨rfl, disabled⟩ := State.raise_refused refusal
    exact ⟨disabled, masked⟩

/-- Settles O17, by the ways an instruction can end. -/
theorem trapsArePreciseAndMasked : Obligations.TrapsArePreciseAndMasked :=
  fun i s _ => ⟨fun _ => (exec_answers i s).trap_precise, (exec_answers i s).refusal_masked⟩

end Sys2Proof.Machine
